-- ==== Sys2Proof/Word.lean ====
section
/-! DEFINITION. The words of the model: bytes, points, tables, and the names of links and axes. -/

namespace Sys2Proof

/-- One byte of a frame (R148). -/
abbrev Byte := BitVec 8

/-- A set of the event bits of Table 10-2, as the links carry it (two bytes). -/
abbrev EventSet := BitVec 16

/-- A table of numbered entries. An entry that is undefined is not listed; indices rise strictly. -/
abbrev Table (α : Type) := List (Nat × α)

/-- The three links (R148): of the axis controller, the threading unit and the cell controller. -/
inductive Link where
  | motion
  | thread
  | cell
  deriving DecidableEq, Repr

/-- The two channels of the Axis Decoder (R24). -/
inductive Axis where
  | x
  | y
  deriving DecidableEq, Repr

/-- A plate coordinate pair in ticks (00_scope.md Table 0-2). -/
structure Point where
  x : Int
  y : Int
  deriving DecidableEq, Repr

end Sys2Proof
end

