-- ==== Sys2Proof/Config.lean ====
section
/-! DEFINITION. What the device fixes (sizes and bounds of the manual) and the values the manual leaves open
(opaque constants: no proof can see what they are). -/

namespace Sys2Proof.Config

/-- Places of the vertex pool (R5). -/
def poolPlaces : Nat := 4096
/-- Ref counts in a millisecond: one ref count is 0.1 µs (00_scope.md Table 0-2). -/
def refsPerMs : Nat := 10000
/-- Ref counts of one byte-time, 2.5 µs (R148). -/
def refsPerByte : Nat := 25
/-- Ref counts of the longest silence inside a frame: 20 byte-times (R149). -/
def gapLimit : Nat := 500
/-- Ref counts within which a reply begins, 20 µs (R151). -/
def replyDelay : Nat := 200
/-- Ref counts of the self-test, 40 ms (R168). -/
def selfTestTime : Nat := 400000
/-- The longest loop, in ticks (R17). -/
def maxLoop : Nat := 1073741823
/-- Ends of the plate coordinate range (00_scope.md Table 0-2). -/
def coordMin : Int := -8388608
def coordMax : Int := 8388607
/-- Ends of the run distance (R38, Table 3-1). -/
def distMin : Int := -2147483648
def distMax : Int := 2147483647
/-- Most bytes of a frame body (Table 10-3). -/
def maxBody : Nat := 240

/-- FREE VALUE (log 6): the i-th byte sent for a value outside the form its field is sent in, `w` bytes wide. -/
opaque overflowByte : Nat → Int → Nat → Byte
/-- FREE VALUE (log 7): the KIND of the reply to a request whose KIND plus 0x80 does not fit its byte. -/
opaque replyKindByte : Nat → Byte
/-- FREE VALUE (log 8): the level of an invalid pair that has had no valid level since the reset. -/
opaque pairLevel : Nat → Bool
/-- FREE VALUE (log 9): whether every place of the map store reads back when the self-test ends on its own. -/
opaque mapStoreReadsBack : Nat → Bool
/-- FREE VALUE (log 10): whether SPARK_OK shows high between an entry and the halt made at that entry. -/
opaque permitGlimpse : Nat → Bool
/-- FREE VALUE (log 11): whether a remaining time of so many ref counts, no whole number of ms, is rounded up. -/
opaque msRoundsUp : Nat → Bool

end Sys2Proof.Config
end

