-- ==== Sys2Proof/Syntax.lean ====
section
/-! DEFINITION. The commands of the 5120: one constructor per row of spec/opcode_table.json. -/

namespace Sys2Proof

/-- A command. A request row is a good frame of that KIND whose last byte arrives on the link (R150): it
carries the frame's TAG and its body bytes, and its link where more than one link serves it. An event row
is the event of a line, a link or a timer, at the moment its rule says that it happens. -/
inductive Instr where
  -- served on all three links (Table 10-10)
  | attentionRead (link : Link) (tag : Byte) (body : List Byte)
  | eventMask (link : Link) (tag : Byte) (body : List Byte)
  | eventClear (link : Link) (tag : Byte) (body : List Byte)
  | linkErrors (link : Link) (tag : Byte) (body : List Byte)
  | deviceStatus (link : Link) (tag : Byte) (body : List Byte)
  -- Motion Link (Table 10-11)
  | runOpen (tag : Byte) (body : List Byte)
  | runContinue (tag : Byte) (body : List Byte)
  | runClose (tag : Byte) (body : List Byte)
  | settingChange (tag : Byte) (body : List Byte)
  | warnClear (tag : Byte) (body : List Byte)
  | runRead (tag : Byte) (body : List Byte)
  | planRead (tag : Byte) (body : List Byte)
  | positionRead (tag : Byte) (body : List Byte)
  | zeroSet (tag : Byte) (body : List Byte)
  /-- GAP_READ, served on the Motion Link and the Cell Link (R112). -/
  | gapRead (link : Link) (tag : Byte) (body : List Byte)
  -- Thread Link (Table 10-12)
  | threadBegin (tag : Byte) (body : List Byte)
  | threadDone (tag : Byte) (body : List Byte)
  | targetRead (tag : Byte) (body : List Byte)
  | wireCut (tag : Byte) (body : List Byte)
  -- Cell Link (Table 10-13)
  | plateBegin (tag : Byte) (body : List Byte)
  | contourLoad (tag : Byte) (body : List Byte)
  | vertexAppend (tag : Byte) (body : List Byte)
  | holeLoad (tag : Byte) (body : List Byte)
  | plateArm (tag : Byte) (body : List Byte)
  | plateDisarm (tag : Byte) (body : List Byte)
  | plateClose (tag : Byte) (body : List Byte)
  | plateStatus (tag : Byte) (body : List Byte)
  | vertexRead (tag : Byte) (body : List Byte)
  | contourRead (tag : Byte) (body : List Byte)
  | holeRead (tag : Byte) (body : List Byte)
  | catchArm (tag : Byte) (body : List Byte)
  | catchDisarm (tag : Byte) (body : List Byte)
  | slugRemoved (tag : Byte) (body : List Byte)
  | contourVoid (tag : Byte) (body : List Byte)
  | holeReset (tag : Byte) (body : List Byte)
  | faultClear (tag : Byte) (body : List Byte)
  | configWrite (tag : Byte) (body : List Byte)
  | configRead (tag : Byte) (body : List Byte)
  | traceRead (tag : Byte) (body : List Byte)
  -- frames and links
  /-- A good frame whose KIND names no request served on the link (R150). -/
  | unknownKind (link : Link) (kind : Byte) (tag : Byte)
  /-- A complete frame whose CHECK disagrees (R149); KIND and TAG have both arrived (R152). -/
  | frameCheckError (link : Link) (kind : Byte) (tag : Byte)
  /-- A frame whose LEN exceeds 240 (R149). -/
  | frameLengthError (link : Link)
  /-- More than 20 byte-times between the bytes of a frame (R149); KIND and TAG as far as they had arrived. -/
  | frameGapTimeout (link : Link) (kind : Option Byte) (tag : Option Byte)
  /-- A good frame that completes while a request is in progress (R150). -/
  | frameOverrun (link : Link) (kind : Byte) (tag : Byte)
  /-- The last byte of the reply has been sent (R150, R151). -/
  | replySent (link : Link)
  /-- The receive line has been held spacing for 5 µs (R158). -/
  | linkReset (link : Link)
  /-- The receive line returns to marking (R148). -/
  | linkBreakEnd (link : Link)
  -- blocks
  | validationComplete
  /-- One observation of a channel's A and B pairs (R25); `none` is a pair at an invalid level (R27). -/
  | quadratureStep (axis : Axis) (a b : Option Bool)
  | lineFaultBegin (axis : Axis)
  | lineFaultEnd (axis : Axis)
  | indexPulse (axis : Axis)
  | sparkInPulse
  | shortInRise
  | shortInFall
  | shortQualify
  | pinch
  | windowEnd
  | settleEnd
  | progressSample
  | breakIn
  /-- A change of HOLD_IN is taken (R143, R146); `level` is the new taken level, true for high. -/
  | holdInChange (level : Bool)
  | deviceReset
  | resetEnd
  /-- The self-test ends (R168); `readsBack` is true when every place of the map store read back as written. -/
  | selfTestEnd (readsBack : Bool)
  deriving DecidableEq, Repr

end Sys2Proof
end

