-- ==== Sys2Proof/Machine/State.lean ====
section
/-! DEFINITION. The state of the 5120, block by block, and the state right after reset. -/

namespace Sys2Proof.Machine

/-! ### Names -/

/-- Table 1-1. -/
inductive PlateState where
  | empty | loading | validating | armed | active
  deriving DecidableEq, Repr

/-- Retention classes (Table 1-3). -/
inductive RetClass where
  | tabbed | drop | keep
  deriving DecidableEq, Repr

/-- Hole locations (Table 1-4). -/
inductive Location where
  | inside | outside
  deriving DecidableEq, Repr

/-- Run directions, along loop order (00_scope.md section 5). -/
inductive Dir where
  | fwd | rev
  deriving DecidableEq, Repr

/-- Allowed directions of a hole (Table 1-4). -/
inductive Dirs where
  | fwd | rev | both
  deriving DecidableEq, Repr

/-- Hole states (Table 1-4): OPEN, BLOCKED, LOST. -/
inductive HoleState where
  | opened | blocked | lost
  deriving DecidableEq, Repr

/-- Retention states (Table 8-1); `partly` is PARTIAL. -/
inductive RState where
  | planned | partly | held | suspect | free | loose | removed | void
  deriving DecidableEq, Repr

/-- Run kinds (Table 4-1). -/
inductive RunKind where
  | first | release | skim
  deriving DecidableEq, Repr

/-- Run phases (Table 4-2). -/
inductive Phase where
  | awaitThread | leadIn | approach | cutting | atLimit | broken | stranded | halted
  deriving DecidableEq, Repr

/-- The phase that RUN_PHASE reports: a phase, or CLOSED, "which appears in this event and in no run record" (R64). -/
inductive PhaseReport where
  | phase (p : Phase)
  | closed
  deriving DecidableEq, Repr

/-- Table 11-5. -/
inductive DeviceState where
  | starting | ready | failed
  deriving DecidableEq, Repr

/-- Self-test results (R168). -/
inductive SelfTest where
  | running | pass | mapStore
  deriving DecidableEq, Repr

/-- warn_mode (Table 11-1). -/
inductive WarnMode where
  | level | latched
  deriving DecidableEq, Repr

/-- Validation error codes (Table 1-5). -/
inductive ErrCode where
  | noContour | width | classTabs | fewVertices | zeroSegment | loopLong | tabPlace | tabNarrow
  | tabOverlap | noHole | holeOwner | leadinZero | entryOff | entryInTab
  deriving DecidableEq, Repr

/-- Status codes (Table 10-4). -/
inductive Status where
  | ok | state | range | full | busy | fault | stale | wire | position | kind | load | inUse
  | withdrawn | starting
  deriving DecidableEq, Repr

/-- Error record codes (R152). -/
inductive LinkErr where
  | check | length | gap | overrun
  deriving DecidableEq, Repr

/-- Receiver states (R148). -/
inductive Receiver where
  | hunt | frame | brk
  deriving DecidableEq, Repr

/-- How a target stopped being posted (R121). -/
inductive Way where
  | done | failed | withdrawn
  deriving DecidableEq, Repr

/-- The occasion of a stranding (R120). -/
inductive Occasion where
  | startBlocked | noPlan
  deriving DecidableEq, Repr

/-- The purpose of a target (Table 7-5). -/
inductive Purpose where
  | start | resume
  deriving DecidableEq, Repr

/-- The cause of an ENCODER posting (R34). -/
inductive EncCause where
  | skip | faultBegin | faultEnd | index | zeroSet
  deriving DecidableEq, Repr

/-- The channel an ENCODER posting concerns (R34). -/
inductive EncChannel where
  | x | y | both
  deriving DecidableEq, Repr

/-- An identified setting (R101): an index of the setting table, or UNKNOWN. -/
inductive Ident where
  | setting (i : Nat)
  | unknown
  deriving DecidableEq, Repr

/-- The path that the Progress Unit tracks (Table 3-1). -/
inductive Path where
  | none
  | leadIn (hole : Nat)
  | loop
  deriving DecidableEq, Repr

/-- The kind of a plan or target, with the hole of a HOLE one (Tables 7-3, 7-5). -/
inductive Place where
  | kerf
  | hole (h : Nat)
  deriving DecidableEq, Repr

/-- The wire record (R114). -/
inductive Wire where
  | unknown
  | none
  | hole (h : Nat)
  | kerf (contour : Nat) (point : Point)
  deriving DecidableEq, Repr

/-! ### Plate Map (chapter 1) -/

/-- One end of a declared tab as loaded (Table 1-3). -/
structure TabEnd where
  seg : Nat
  off : Nat
  deriving DecidableEq, Repr

/-- A declared tab as loaded (Table 1-3). -/
structure DeclTab where
  start : TabEnd
  stop : TabEnd
  deriving DecidableEq, Repr

/-- A half-open interval [lo, hi) of loop positions or run distances (R83). -/
structure Span where
  lo : Nat
  hi : Nat
  deriving DecidableEq, Repr

/-- A stretch of cells in loop order, taken modulo Lc (R82). -/
structure Stretch where
  first : Nat
  len : Nat
  deriving DecidableEq, Repr

/-- Computed fields of a contour (Table 1-3): Ls_i, S_i, Lc and the tab loop positions [ts, te). -/
structure ContourGeom where
  segLen : List Nat
  segOff : List Nat
  loopLen : Nat
  tabs : List Span
  deriving DecidableEq, Repr

/-- Live fields of a contour (Table 1-3). The catch-armed flag is membership of the catch set (R132). -/
structure ContourLive where
  coverage : List Span
  implied : Option Stretch
  state : RState
  tilt : Bool
  removed : Bool
  voided : Bool
  discharges : Nat
  deriving DecidableEq, Repr

/-- A defined contour entry (R3). -/
structure Contour where
  cls : RetClass
  width : Nat
  vertices : List Point
  tabs : List DeclTab
  geom : Option ContourGeom
  live : Option ContourLive
  deriving DecidableEq, Repr

/-- Computed fields of a hole (Table 1-4). -/
structure HoleGeom where
  segLen : List Nat
  lin : Nat
  entrySeg : Nat
  entry : Nat
  deriving DecidableEq, Repr

/-- Live fields of a hole (Table 1-4). -/
structure HoleLive where
  state : HoleState
  fails : Nat
  leadInCut : Bool
  deriving DecidableEq, Repr

/-- A defined hole entry (R7). -/
structure Hole where
  owner : Nat
  loc : Location
  dirs : Dirs
  centre : Point
  leadIn : List Point
  geom : Option HoleGeom
  live : Option HoleLive
  deriving DecidableEq, Repr

/-- A validation error entry (R16). -/
structure MapError where
  code : ErrCode
  contour : Option Nat
  hole : Option Nat
  item : Option Nat
  item2 : Option Nat
  deriving DecidableEq, Repr

/-- The Plate Map block (R2): state, identifier, tables, error list, and a validation's captured entry_tol
and the time left to its bound (R10, R21). -/
structure Plate where
  state : PlateState
  ident : Option Nat
  contours : Table Contour
  holes : Table Hole
  errors : List MapError
  more : Bool
  entryTol : Nat
  validation : Option Nat
  deriving DecidableEq, Repr

/-! ### Axis Decoder (chapter 2) -/

/-- One channel (Table 2-1), with the last valid levels of its A and B pairs (R27), which are none until an observation
after a reset. The out-of-envelope flag is a level condition of count and offset (R32). -/
structure Channel where
  count : BitVec 32
  quad : Option (Bool × Bool)
  lastA : Option Bool
  lastB : Option Bool
  zero : BitVec 32
  index : Option (BitVec 32)
  fault : Bool
  skip : Bool
  zeroMark : Bool
  suspect : Bool
  deriving DecidableEq, Repr

/-- The latches of one channel as the ENCODER detail shows them (R34). -/
structure Latches where
  fault : Bool
  skip : Bool
  zeroMark : Bool
  suspect : Bool
  deriving DecidableEq, Repr

/-! ### Progress Unit (chapter 3) -/

/-- Table 3-1. `timer` is none while stopped, else the ref counts to the next expiry. -/
structure Progress where
  timer : Option Nat
  path : Path
  seg : Nat
  along : Int
  dev : Nat
  lam : Nat
  sOld : Option Nat
  r : Int
  a : Nat
  offPath : Nat
  dry : Nat
  deriving DecidableEq, Repr

/-- A sample between its expiry and its completion (R40): its phase, its kind and the presence it read; or
abandoned, when an event of R40 came first. -/
inductive Sampling where
  | none
  | inProgress (phase : Phase) (kind : RunKind) (presence : Bool)
  | abandoned
  deriving DecidableEq, Repr

/-! ### Run Controller (chapter 4) -/

/-- The halt cause set (Table 4-1). -/
structure Causes where
  trackLoss : Bool
  encoder : Bool
  setting : Bool
  pinch : Bool
  violation : Bool
  deriving DecidableEq, Repr

/-- Halt cause set and return phase, "present together" (R60). -/
structure Halt where
  causes : Causes
  back : Phase
  deriving DecidableEq, Repr

/-- The break record (R117). -/
structure BreakRecord where
  phase : Phase
  path : Path
  pos : Point
  r : Int
  a : Nat
  deriving DecidableEq, Repr

/-- The resume plan (Table 7-3); `cutsLeadIn` is the approach note LEAD_IN_TO_CUT. -/
structure Plan where
  place : Place
  backoff : Option Nat
  target : Point
  resume : Nat
  resumePoint : Point
  cutsLeadIn : Bool
  deriving DecidableEq, Repr

/-- The run record (Table 4-1), and the remaining distance after the run's last completed sample, which WARN_CLEAR uses
(R72). Its r, a, λ and dev are the Progress Unit's items (R60). -/
structure Run where
  number : Nat
  contour : Nat
  hole : Nat
  e0 : Nat
  kind : RunKind
  dir : Dir
  expected : Nat
  phase : Phase
  c : Nat
  limit : Nat
  stop : Int
  final : Bool
  holdback : Bool
  leftHole : Bool
  warn : Bool
  halt : Option Halt
  brk : Option BreakRecord
  plan : Option Plan
  breaks : Nat
  discharges : Nat
  shorts : Nat
  sampledRem : Option Int
  deriving DecidableEq, Repr

/-- The last-run record (R61). -/
structure LastRun where
  run : Run
  r : Int
  a : Nat
  lam : Nat
  dev : Nat
  phaseAtClose : Phase
  deriving DecidableEq, Repr

/-! ### Gap Monitor (chapter 6) -/

/-- The last-window record (Table 6-1). -/
structure WindowRecord where
  n : Nat
  m : Nat
  sum : Nat
  eligible : Bool
  deriving DecidableEq, Repr

/-- A short episode (Table 6-1); `elapsed` in ref counts. -/
structure Episode where
  elapsed : Nat
  qualified : Bool
  pinched : Bool
  deriving DecidableEq, Repr

/-- Table 6-1. `settle` is none while IDLE, else the remaining ref counts. -/
structure Gap where
  interval : Nat
  windowTimer : Nat
  n : Nat
  m : Nat
  sum : Nat
  eligible : Bool
  lastWindow : Option WindowRecord
  shortSince : Bool
  ident : Option Ident
  lastMean : Option Nat
  mismatch : Nat
  presence : Bool
  pulseTotal : Nat
  episode : Option Episode
  stray : Nat
  violation : Bool
  settle : Option Nat
  deriving DecidableEq, Repr

/-! ### Rethread Planner (chapter 7) -/

/-- The target record (Table 7-5). -/
structure Target where
  number : Nat
  purpose : Purpose
  place : Place
  contour : Nat
  point : Point
  begun : Bool
  deriving DecidableEq, Repr

/-- The withdrawn target memory (Table 7-1). -/
structure Withdrawn where
  number : Nat
  place : Place
  contour : Nat
  point : Point
  deriving DecidableEq, Repr

/-- Table 7-1, and the target that last stopped being posted, which the TARGET detail reports (R121). -/
structure Planner where
  wire : Wire
  target : Option Target
  counter : Nat
  withdrawn : Option Withdrawn
  kerf : Option Nat
  lastStopped : Option (Nat × Way)
  deriving DecidableEq, Repr

/-! ### Configuration and Trace Buffer (chapter 11) -/

/-- The configuration record (Table 11-1). -/
structure ConfigRecord where
  samplePeriod : Nat
  windowPeriod : Nat
  pathTol : Nat
  offpathLimit : Nat
  dryLimit : Nat
  warnDist : Nat
  warnHyst : Nat
  warnMode : WarnMode
  permitLead : Nat
  resumeTol : Nat
  threadTol : Nat
  entryTol : Nat
  kerfLimit : Nat
  holeLimit : Nat
  backoff : Nat
  shortQual : Nat
  pinchTime : Nat
  strayLimit : Nat
  mismatchLimit : Nat
  settleTime : Nat
  settleOnResume : Bool
  indexPitchX : Nat
  indexPitchY : Nat
  indexTol : Nat
  settings : List (Nat × Nat)
  traceDecimation : Nat
  traceShift : Nat
  traceThreshold : Nat
  deriving DecidableEq, Repr

/-- A trace record (Table 11-3). -/
structure TraceRecord where
  run : Nat
  phase : Phase
  r : Int
  dev : Nat
  discharges : Nat
  short : Bool
  warn : Bool
  dry : Bool
  deriving DecidableEq, Repr

/-- The Trace Buffer (R165), oldest record first. -/
structure Trace where
  fifo : List TraceRecord
  decimation : Nat
  tally : Nat
  dropped : Nat
  deriving DecidableEq, Repr

/-! ### Links and events (chapter 10) -/

/-- The BREAK detail (Table 10-2); a field its rule does not name for the case is absent (log 20). -/
structure BreakDetail where
  run : Option Nat
  phase : Option Phase
  path : Option Path
  pos : Point
  r : Option Int
  a : Option Nat
  breaks : Option Nat
  wire : Option Wire
  deriving DecidableEq, Repr

/-- An event with its detail (Table 10-2). -/
inductive Event where
  | runPhase (run : Nat) (phase : PhaseReport)
  | warn (run : Nat) (remaining : Int)
  | atLimit (run : Nat) (stop value : Int)
  | brk (detail : BreakDetail)
  | target (posted : Option Target) (last : Option (Nat × Way))
  | stranded (run contour hole : Nat) (occasion : Occasion)
  | halt (run : Nat) (causes : Causes) (back : Phase)
  | contourState (changed : Table RState)
  | catchNeeded (run contour heldBack : Nat)
  | encoder (x y : Latches) (cause : EncCause) (channel : EncChannel)
  | violation (stray : Nat) (run : Option (Nat × Phase)) (device : DeviceState)
  | inhibit (hold spark thread : Bool)
  | plateState (state : PlateState) (ident : Option Nat)
  | traceLevel (level : Nat)
  | traceOverflow (dropped : Nat)
  deriving DecidableEq, Repr

/-- An entry of a link's error record (R152). -/
structure ErrorEntry where
  code : LinkErr
  kind : Option Byte
  tag : Option Byte
  deriving DecidableEq, Repr

/-- The request in progress (Table 10-1). `reply` is the reply frame, none while PLATE_ARM's is held (R10);
`left` is the ref counts to its last byte at the latest (R151). -/
structure InProgress where
  kind : Byte
  tag : Byte
  reply : Option (List Byte)
  left : Nat
  deriving DecidableEq, Repr

/-- What is still to arrive on a receive line, each after its ref counts: a byte, the end of 5 µs of
spacing, the return to marking (log 1). -/
inductive LineItem where
  | byte (after : Nat) (value : Byte)
  | spacing (after : Nat)
  | marking (after : Nat)
  deriving DecidableEq, Repr

/-- One link interface (Table 10-1). `raw` lists the pending events by their bit of Table 10-2. -/
structure LinkState where
  rx : Receiver
  part : List Byte
  gapTime : Nat
  line : List LineItem
  busy : Option InProgress
  errors : List ErrorEntry
  mask : EventSet
  raw : Table Event
  attn : Bool
  deriving DecidableEq, Repr

/-! ### The whole state -/

/-- The 5120: every block's state, the lines, the queue of waiting commands, and the counter that hands out
free values. -/
structure State where
  resetLow : Bool
  device : DeviceState
  selfTest : SelfTest
  selfTestLeft : Nat
  cfg : ConfigRecord
  axisX : Channel
  axisY : Channel
  plate : Plate
  prog : Progress
  sampling : Sampling
  run : Option Run
  lastRun : Option LastRun
  runCounter : Nat
  gap : Gap
  planner : Planner
  catchSet : List Nat
  sparkOk : Bool
  threadOk : Bool
  holdIn : Bool
  shortIn : Bool
  motion : LinkState
  thread : LinkState
  cell : LinkState
  trace : Trace
  freeCount : Nat
  pending : List Instr
  deriving DecidableEq, Repr

/-- The 5120 never stops: no rule of the manual does so, so there is no fault (NOTES.md, Stops). Nobody
raises one; safe. -/
inductive Fault where
  deriving DecidableEq, Repr

/-- Refusals. No meaning answers one. -/
inductive Refusal where
  /-- Raised by exec's arm of a command that has no meaning yet, with its mnemonic; safe (the model stops). -/
  | notModelled (mnemonic : String)
  deriving DecidableEq, Repr

/-! ### After reset -/

/-- Table 11-1, defaults. -/
def ConfigRecord.reset : ConfigRecord where
  samplePeriod := 5
  windowPeriod := 10
  pathTol := 500
  offpathLimit := 20
  dryLimit := 2000
  warnDist := 20000
  warnHyst := 200
  warnMode := .level
  permitLead := 50
  resumeTol := 100
  threadTol := 200
  entryTol := 100
  kerfLimit := 1
  holeLimit := 3
  backoff := 3000
  shortQual := 5
  pinchTime := 50
  strayLimit := 8
  mismatchLimit := 6
  settleTime := 20
  settleOnResume := true
  indexPitchX := 0
  indexPitchY := 0
  indexTol := 4
  settings := List.replicate 8 (0, 0)
  traceDecimation := 4
  traceShift := 4
  traceThreshold := 32

/-- Table 2-1, after device reset: the suspect latch is set. -/
def Channel.reset : Channel where
  count := 0
  quad := none
  lastA := none
  lastB := none
  zero := 0
  index := none
  fault := false
  skip := false
  zeroMark := false
  suspect := true

/-- R2. -/
def Plate.reset : Plate where
  state := .empty
  ident := none
  contours := []
  holes := []
  errors := []
  more := false
  entryTol := 0
  validation := none

/-- Table 3-1, idle. -/
def Progress.idle : Progress where
  timer := none
  path := .none
  seg := 0
  along := 0
  dev := 0
  lam := 0
  sOld := none
  r := 0
  a := 0
  offPath := 0
  dry := 0

/-- Table 6-1, after device reset; the window timer has one full default period of 1 ms ahead of it (R98). -/
def Gap.reset : Gap where
  interval := 65535
  windowTimer := 10000
  n := 0
  m := 0
  sum := 0
  eligible := false
  lastWindow := none
  shortSince := false
  ident := none
  lastMean := none
  mismatch := 0
  presence := false
  pulseTotal := 0
  episode := none
  stray := 0
  violation := false
  settle := none

/-- Table 7-1, after device reset. -/
def Planner.reset : Planner where
  wire := .unknown
  target := none
  counter := 0
  withdrawn := none
  kerf := none
  lastStopped := none

/-- R165, after device reset. -/
def Trace.reset : Trace where
  fifo := []
  decimation := 0
  tally := 0
  dropped := 0

/-- Table 10-1, after device reset, with the mask of every kind routed to the link (Table 10-2). -/
def LinkState.reset (routed : EventSet) : LinkState where
  rx := .hunt
  part := []
  gapTime := 0
  line := []
  busy := none
  errors := []
  mask := routed
  raw := []
  attn := false

/-- The machine right after reset, when the reset has ended (R168): STARTING, the self-test running, every
block as its chapter gives it after a device reset, nothing waiting. The masks enable every kind that
Table 10-2 routes to the link. -/
def State.reset : State where
  resetLow := false
  device := .starting
  selfTest := .running
  selfTestLeft := 400000
  cfg := ConfigRecord.reset
  axisX := Channel.reset
  axisY := Channel.reset
  plate := Plate.reset
  prog := Progress.idle
  sampling := .none
  run := none
  lastRun := none
  runCounter := 0
  gap := Gap.reset
  planner := Planner.reset
  catchSet := []
  sparkOk := false
  threadOk := false
  holdIn := false
  shortIn := false
  motion := LinkState.reset 0x1FFF
  thread := LinkState.reset 0x0C18
  cell := LinkState.reset 0x7FED
  trace := Trace.reset
  freeCount := 0
  pending := []

end Sys2Proof.Machine
end

