-- ==== Sys2Proof/Machine/Flags.lean ====
section
/-! DEFINITION. Conditions and levels that are computed from the state whenever they are read: event bits and
pending sets, axis conditions, plate coordinates, permit conditions, stop point test and remaining distance. -/

namespace Sys2Proof.Machine

/-! ### Events (Table 10-2) -/

/-- The bit of an event's kind (Table 10-2). -/
def Event.bit : Event → Nat
  | .runPhase .. => 0
  | .warn .. => 1
  | .atLimit .. => 2
  | .brk .. => 3
  | .target .. => 4
  | .stranded .. => 5
  | .halt .. => 6
  | .contourState .. => 7
  | .catchNeeded .. => 8
  | .encoder .. => 9
  | .violation .. => 10
  | .inhibit .. => 11
  | .plateState .. => 12
  | .traceLevel .. => 13
  | .traceOverflow .. => 14

/-- The kinds routed to a link, as a set of bits (Table 10-2). -/
def routed : Link → EventSet
  | .motion => 0x1FFF
  | .thread => 0x0C18
  | .cell => 0x7FED

/-- Whether a set holds a bit. -/
def hasBit (set : EventSet) (bit : Nat) : Bool := set.getLsbD bit

/-- The raw pending set as bits. -/
def rawBits (raw : Table Event) : EventSet :=
  raw.foldl (fun acc e => acc ||| (1#16 <<< e.1)) 0

/-- The pending set restricted by the mask (R154). -/
def LinkState.masked (l : LinkState) : EventSet := rawBits l.raw &&& l.mask

/-- R154: the attention line is asserted exactly when the masked pending set is not empty. -/
def LinkState.attnLevel (l : LinkState) : Bool := l.masked != 0

/-! ### Axis Decoder -/

/-- R32: the count minus the zero offset, exactly. -/
def Channel.diff (c : Channel) : Int := c.count.toInt - c.zero.toInt

/-- R32: the plate coordinate, clamped to the nearer end of its range. -/
def Channel.coord (c : Channel) : Int := max Config.coordMin (min Config.coordMax c.diff)

/-- R32: the out-of-envelope flag. -/
def Channel.outOfEnvelope (c : Channel) : Bool := c.diff < Config.coordMin || Config.coordMax < c.diff

/-- The latches as ENCODER shows them (R34). -/
def Channel.latches (c : Channel) : Latches := ⟨c.fault, c.skip, c.zeroMark, c.suspect⟩

/-- The plate position (R32). -/
def State.pos (s : State) : Point := ⟨s.axisX.coord, s.axisY.coord⟩

/-- R33: the position is available. -/
def State.available (s : State) : Bool :=
  !s.axisX.fault && !s.axisY.fault && !s.axisX.outOfEnvelope && !s.axisY.outOfEnvelope

/-- R31: the position is suspect. -/
def State.suspect (s : State) : Bool := s.axisX.suspect || s.axisY.suspect

/-- A line fault is present on either axis. -/
def State.lineFault (s : State) : Bool := s.axisX.fault || s.axisY.fault

/-- R33: the ENCODER condition stands. -/
def State.encoderCond (s : State) : Bool := s.lineFault || s.suspect

/-! ### Runs -/

/-- The four phases that take samples and that a halt acts on (R39, R73). -/
def Phase.tracking : Phase → Bool
  | .leadIn | .approach | .cutting | .atLimit => true
  | .awaitThread | .broken | .stranded | .halted => false

/-- The phases in which the run itself lets SPARK_OK be high (Table 4-2). -/
def Phase.sparks : Phase → Bool
  | .leadIn | .cutting => true
  | .approach | .atLimit | .awaitThread | .broken | .stranded | .halted => false

/-- What the stop point test reads (R67): the frontier, and for SKIM the run distance. -/
def testedValue (run : Run) (prog : Progress) : Int :=
  match run.kind with
  | .skim => prog.r
  | .first | .release => prog.a

/-- The stop point test (R67). -/
def stopReached (run : Run) (prog : Progress) : Bool := decide (run.stop ≤ testedValue run prog)

/-- The remaining distance (R70). -/
def remaining (run : Run) (prog : Progress) : Int := run.stop - testedValue run prog

/-- No cause at all. -/
def Causes.none : Causes := ⟨false, false, false, false, false⟩

/-- Some cause. -/
def Causes.any (c : Causes) : Bool := c.trackLoss || c.encoder || c.setting || c.pinch || c.violation

/-- Both sets together. -/
def Causes.union (c d : Causes) : Causes :=
  ⟨c.trackLoss || d.trackLoss, c.encoder || d.encoder, c.setting || d.setting, c.pinch || d.pinch,
    c.violation || d.violation⟩

/-- The level conditions that stand (R73): ENCODER and VIOLATION. -/
def State.standing (s : State) : Causes :=
  { Causes.none with encoder := s.encoderCond, violation := s.gap.violation }

/-! ### Permits -/

/-- R144: the conditions of SPARK_OK. -/
def State.sparkCond (s : State) : Bool :=
  s.device == .ready && s.plate.state == .active &&
    (match s.run with
      | some run => run.phase.sparks
      | none => false) &&
    !s.holdIn && !s.gap.violation && !s.resetLow

/-- R145: the conditions of THREAD_OK, with the level of SPARK_OK given. -/
def State.threadCond (s : State) (spark : Bool) : Bool :=
  s.device == .ready && s.planner.target.isSome && !spark && !s.holdIn && !s.resetLow

/-! ### Plate -/

/-- The plate has its computed and live fields (R3). -/
def PlateState.live : PlateState → Bool
  | .armed | .active => true
  | .empty | .loading | .validating => false

end Sys2Proof.Machine
end

