-- ==== Sys2Proof/Machine/Ops.lean ====
section
/-! DEFINITION. The operations every command is written over: tables, counters, the links' sets, posting,
permits and attention lines, replies, free values, the queue. The 5120 has no exception entry. -/

namespace Sys2Proof

/-! ### Tables -/

/-- The entry of an index, or none where it is undefined. -/
def Table.get? {α : Type} : Table α → Nat → Option α
  | [], _ => none
  | (k, v) :: rest, i => if k = i then some v else Table.get? rest i

/-- Defines or replaces an entry, keeping the indices rising. -/
def Table.set {α : Type} : Table α → Nat → α → Table α
  | [], i, v => [(i, v)]
  | (k, w) :: rest, i, v =>
    if i < k then (i, v) :: (k, w) :: rest
    else if i = k then (i, v) :: rest
    else (k, w) :: Table.set rest i v

/-- Changes a defined entry; an undefined one stays undefined. -/
def Table.modify {α : Type} (t : Table α) (i : Nat) (f : α → α) : Table α :=
  match Table.get? t i with
  | none => t
  | some v => Table.set t i (f v)

/-- Changes every entry. -/
def Table.mapAll {α : Type} (t : Table α) (f : Nat → α → α) : Table α := t.map (fun e => (e.1, f e.1 e.2))

/-- The canonical form: indices rise strictly. -/
def Table.wf {α : Type} : Table α → Bool
  | [] => true
  | [_] => true
  | (i, _) :: (j, v) :: rest => decide (i < j) && Table.wf ((j, v) :: rest)

namespace Machine

/-! ### Numbers -/

/-- Adds 1 up to a maximum ("a counter stops at its stated maximum", 00_scope.md Table 0-2). -/
def satInc (top n : Nat) : Nat := min top (n + 1)

/-- Adds up to a maximum. -/
def satAdd (top n k : Nat) : Nat := min top (n + k)

/-- Takes the nearest end of a range. -/
def clampNat (lo hi n : Nat) : Nat := max lo (min hi n)

/-- Takes the nearest end of a range. -/
def clampInt (lo hi x : Int) : Int := max lo (min hi x)

/-! ### State accessors -/

/-- A link's interface. -/
def State.link (s : State) : Link → LinkState
  | .motion => s.motion
  | .thread => s.thread
  | .cell => s.cell

/-- Replaces a link's interface. -/
def State.setLink (s : State) (l : Link) (v : LinkState) : State :=
  match l with
  | .motion => { s with motion := v }
  | .thread => { s with thread := v }
  | .cell => { s with cell := v }

/-- Changes a link's interface. -/
def State.modLink (s : State) (l : Link) (f : LinkState → LinkState) : State := s.setLink l (f (s.link l))

/-- A channel of the Axis Decoder. -/
def State.axis (s : State) : Axis → Channel
  | .x => s.axisX
  | .y => s.axisY

/-- Replaces a channel. -/
def State.setAxis (s : State) (a : Axis) (v : Channel) : State :=
  match a with
  | .x => { s with axisX := v }
  | .y => { s with axisY := v }

/-- The index pitch of a channel (R24). -/
def ConfigRecord.indexPitch (c : ConfigRecord) : Axis → Nat
  | .x => c.indexPitchX
  | .y => c.indexPitchY

/-- The channel as an ENCODER detail names it. -/
def encChannel : Axis → EncChannel
  | .x => .x
  | .y => .y

/-- A contour entry. -/
def State.contour? (s : State) (c : Nat) : Option Contour := Table.get? s.plate.contours c

/-- A hole entry. -/
def State.hole? (s : State) (h : Nat) : Option Hole := Table.get? s.plate.holes h

/-- Changes a defined contour entry. -/
def State.modContour (s : State) (c : Nat) (f : Contour → Contour) : State :=
  { s with plate := { s.plate with contours := Table.modify s.plate.contours c f } }

/-- Changes a defined hole entry. -/
def State.modHole (s : State) (h : Nat) (f : Hole → Hole) : State :=
  { s with plate := { s.plate with holes := Table.modify s.plate.holes h f } }

/-- The computed fields a contour has where it has none (log 17): nothing to track or cut. -/
def ContourGeom.blank : ContourGeom := ⟨[], [], 0, []⟩

/-- Live fields at their starting values (Table 1-3). -/
def ContourLive.start : ContourLive := ⟨[], none, .planned, false, false, false, 0⟩

/-- The computed fields a hole has where it has none (log 17). -/
def HoleGeom.blank : HoleGeom := ⟨[], 0, 0, 0⟩

/-- Live fields at their starting values (Table 1-4). -/
def HoleLive.start : HoleLive := ⟨.opened, 0, false⟩

/-- The computed fields of a contour. -/
def Contour.g (c : Contour) : ContourGeom := c.geom.getD ContourGeom.blank

/-- The live fields of a contour. -/
def Contour.lv (c : Contour) : ContourLive := c.live.getD ContourLive.start

/-- The computed fields of a hole. -/
def Hole.g (h : Hole) : HoleGeom := h.geom.getD HoleGeom.blank

/-- The live fields of a hole. -/
def Hole.lv (h : Hole) : HoleLive := h.live.getD HoleLive.start

/-- Changes the live fields of a contour. -/
def State.modLive (s : State) (c : Nat) (f : ContourLive → ContourLive) : State :=
  s.modContour c (fun e => { e with live := e.live.map f })

/-- Changes the live fields of a hole. -/
def State.modHoleLive (s : State) (h : Nat) (f : HoleLive → HoleLive) : State :=
  s.modHole h (fun e => { e with live := e.live.map f })

/-- R132: the catch-armed flag of a contour is set exactly while its index is in the catch set. -/
def State.catchArmed (s : State) (c : Nat) : Bool := s.catchSet.contains c

/-- The vertices the map holds (R5). -/
def Plate.used (p : Plate) : Nat :=
  (p.contours.map (fun e => e.2.vertices.length)).sum + (p.holes.map (fun e => e.2.leadIn.length)).sum

/-- The free places of the pool (R5). -/
def Plate.free (p : Plate) : Nat := Config.poolPlaces - p.used

/-- The indices of the defined holes that name a contour as owner, ascending. -/
def Plate.holesOf (p : Plate) (c : Nat) : List Nat :=
  (p.holes.filter (fun e => e.2.owner == c)).map (·.1)

/-- Changes the open run. -/
def State.modRun (s : State) (f : Run → Run) : State := { s with run := s.run.map f }

/-- Changes the Gap Monitor. -/
def State.modGap (s : State) (f : Gap → Gap) : State := { s with gap := f s.gap }

/-- Changes the Rethread Planner. -/
def State.modPlanner (s : State) (f : Planner → Planner) : State := { s with planner := f s.planner }

/-- The open run is on the contour. -/
def State.runOn (s : State) (c : Nat) : Bool :=
  match s.run with
  | some run => run.contour == c
  | none => false

/-! ### Events (R153) -/

/-- The detail a link keeps: CONTOUR_STATE merges into the changed-contour set (R140), every other kind
replaces what the link held. -/
def mergeDetail (old : Option Event) (new : Event) : Event :=
  match old, new with
  | some (.contourState held), .contourState added =>
    .contourState (added.foldl (fun t e => Table.set t e.1 e.2) held)
  | _, _ => new

/-- What one link does with a posting (R153). -/
def LinkState.posted (l : LinkState) (which : Link) (e : Event) : LinkState :=
  if hasBit (routed which) e.bit then
    { l with raw := Table.set l.raw e.bit (mergeDetail (Table.get? l.raw e.bit) e) }
  else l

/-- Posts an event on every link its kind is routed to (R153). -/
def post (e : Event) (s : State) : State :=
  { s with
    motion := s.motion.posted .motion e
    thread := s.thread.posted .thread e
    cell := s.cell.posted .cell e }

/-- Clears the kinds of a set with their details. -/
def LinkState.cleared (l : LinkState) (set : EventSet) : LinkState :=
  { l with raw := l.raw.filter (fun e => !hasBit set e.1) }

/-! ### Permits and attention lines -/

/-- Drives both permits from their conditions; a rise of SPARK_OK sets the stray count to 0 (R144, R145, R108). -/
def drivePermits (s : State) : State :=
  { s with
    sparkOk := s.sparkCond
    threadOk := s.threadCond s.sparkCond
    gap := { s.gap with stray := if !s.sparkOk && s.sparkCond then 0 else s.gap.stray } }

/-- Drives the three attention lines (R154). -/
def driveAttn (s : State) : State :=
  { s with
    motion := { s.motion with attn := s.motion.attnLevel }
    thread := { s.thread with attn := s.thread.attnLevel }
    cell := { s.cell with attn := s.cell.attnLevel } }

/-- Every output follows its conditions: the last act of a command that changed anything (log 12). -/
def drive (s : State) : State := driveAttn (drivePermits s)

/-! ### Free values, queue -/

/-- Takes the next number for a free value (log 5). -/
def takeFree (s : State) : Nat × State := (s.freeCount, { s with freeCount := s.freeCount + 1 })

/-- Puts a command at the end of the queue. -/
def enqueue (c : Instr) (s : State) : State := { s with pending := s.pending ++ [c] }

/-! ### Error records (R152) -/

/-- Adds an entry; a fourth entry removes the oldest first. -/
def addError (errors : List ErrorEntry) (e : ErrorEntry) : List ErrorEntry :=
  (if errors.length < 3 then errors else errors.drop 1) ++ [e]

/-- Records a discarded frame on a link. -/
def recordError (l : Link) (code : LinkErr) (kind tag : Option Byte) (s : State) : State :=
  s.modLink l (fun k => { k with errors := addError k.errors ⟨code, kind, tag⟩ })

/-- The link receives frames now: no reset (R168), and its line is not held spacing (R148). -/
def State.receives (s : State) (l : Link) : Bool := !s.resetLow && (s.link l).rx != .brk

end Machine
end Sys2Proof
end

