-- ==== Sys2Proof/Machine/Operands.lean ====
section
/-! DEFINITION. Bytes and fields: byte order, signed fields, the codes of Table 10-6, the frame check, and the
request bodies of Tables 10-7, 10-8, 10-15 and 10-16 in both directions. -/

namespace Sys2Proof.Machine

/-! ### Fields (10.7: little-endian, signed where they can be negative) -/

/-- The low `w` bytes of a number, least significant first. -/
def leBytes : Nat → Nat → List Byte
  | 0, _ => []
  | w + 1, n => BitVec.ofNat 8 n :: leBytes w (n / 256)

/-- The number that bytes spell, least significant first. -/
def leNat : List Byte → Nat
  | [] => 0
  | b :: rest => b.toNat + 256 * leNat rest

/-- The signed number that bytes spell. -/
def leInt (bs : List Byte) : Int :=
  let n := leNat bs
  if 2 * n < 256 ^ bs.length then (n : Int) else (n : Int) - (256 ^ bs.length : Nat)

/-- Bytes for a value outside its field's form (log 6). -/
def overflowBytes (w : Nat) (x : Int) : List Byte := (List.range w).map (Config.overflowByte w x)

/-- An unsigned field of `w` bytes. -/
def natField (w n : Nat) : List Byte := if n < 256 ^ w then leBytes w n else overflowBytes w n

/-- A signed field of `w` bytes. -/
def intField (w : Nat) (x : Int) : List Byte :=
  let size : Int := ((256 ^ w : Nat) : Int)
  if -size ≤ 2 * x ∧ 2 * x < size then leBytes w (x % size).toNat else overflowBytes w x

/-- An absent field is all ones (R160). -/
def absentField (w : Nat) : List Byte := List.replicate w 0xFF

/-- A field that may be absent. -/
def optNat (w : Nat) : Option Nat → List Byte
  | some n => natField w n
  | none => absentField w

/-- A flag: 1 set, 0 clear (R160). -/
def flagField (b : Bool) : List Byte := [if b then 1 else 0]

/-- A plate coordinate takes three bytes, a point is x then y (10.7). -/
def pointField (p : Point) : List Byte := intField 3 p.x ++ intField 3 p.y

/-- A list begins with a count byte (R160). -/
def listField {α : Type} (f : α → List Byte) (xs : List α) : List Byte :=
  natField 1 xs.length ++ xs.flatMap f

/-- A group that may be absent as a whole: presence byte, and zeros when absent (R160). -/
def groupField {α : Type} (w : Nat) (f : α → List Byte) : Option α → List Byte
  | some v => 1 :: f v
  | none => 0 :: List.replicate w 0

/-! ### Codes (Tables 10-4 and 10-6) -/

def Status.code : Status → Byte
  | .ok => 0x00
  | .state => 0x01
  | .range => 0x02
  | .full => 0x03
  | .busy => 0x04
  | .fault => 0x05
  | .stale => 0x06
  | .wire => 0x07
  | .position => 0x08
  | .kind => 0x09
  | .load => 0x0A
  | .inUse => 0x0B
  | .withdrawn => 0x0C
  | .starting => 0x0D

def LinkErr.code : LinkErr → Byte
  | .check => 1
  | .length => 2
  | .gap => 3
  | .overrun => 4

def DeviceState.code : DeviceState → Byte
  | .starting => 0
  | .ready => 1
  | .failed => 2

def PlateState.code : PlateState → Byte
  | .empty => 0
  | .loading => 1
  | .validating => 2
  | .armed => 3
  | .active => 4

def Phase.code : Phase → Byte
  | .awaitThread => 0
  | .leadIn => 1
  | .approach => 2
  | .cutting => 3
  | .atLimit => 4
  | .broken => 5
  | .stranded => 6
  | .halted => 7

def PhaseReport.code : PhaseReport → Byte
  | .phase p => p.code
  | .closed => 8

/-- A phase that may be absent: 0xFF (Table 10-6). -/
def optPhase : Option Phase → Byte
  | some p => p.code
  | none => 0xFF

def RetClass.code : RetClass → Byte
  | .tabbed => 0
  | .drop => 1
  | .keep => 2

def RetClass.ofCode (n : Nat) : Option RetClass :=
  match n with
  | 0 => some .tabbed
  | 1 => some .drop
  | 2 => some .keep
  | _ => none

def Location.code : Location → Byte
  | .inside => 0
  | .outside => 1

def Location.ofCode (n : Nat) : Option Location :=
  match n with
  | 0 => some .inside
  | 1 => some .outside
  | _ => none

def RunKind.code : RunKind → Byte
  | .first => 0
  | .release => 1
  | .skim => 2

def RunKind.ofCode (n : Nat) : Option RunKind :=
  match n with
  | 0 => some .first
  | 1 => some .release
  | 2 => some .skim
  | _ => none

def Dir.code : Dir → Byte
  | .fwd => 0
  | .rev => 1

def Dir.ofCode (n : Nat) : Option Dir :=
  match n with
  | 0 => some .fwd
  | 1 => some .rev
  | _ => none

def Dirs.code : Dirs → Byte
  | .fwd => 0
  | .rev => 1
  | .both => 2

def Dirs.ofCode (n : Nat) : Option Dirs :=
  match n with
  | 0 => some .fwd
  | 1 => some .rev
  | 2 => some .both
  | _ => none

def RState.code : RState → Byte
  | .planned => 0
  | .partly => 1
  | .held => 2
  | .suspect => 3
  | .free => 4
  | .loose => 5
  | .removed => 6
  | .void => 7

/-- The halt cause set as bits; 0 means absent (Table 10-6). -/
def Causes.code (c : Causes) : Byte :=
  (if c.trackLoss then 1 else 0) + (if c.encoder then 2 else 0) + (if c.setting then 4 else 0) +
    (if c.pinch then 8 else 0) + (if c.violation then 16 else 0)

/-- Path: 0-127 lead-in of that hole, 0xFE none, 0xFF loop (Table 10-6). -/
def Path.code : Path → Byte
  | .none => 0xFE
  | .leadIn h => BitVec.ofNat 8 h
  | .loop => 0xFF

def Purpose.code : Purpose → Byte
  | .start => 0
  | .resume => 1

def Place.code : Place → Byte
  | .kerf => 0
  | .hole _ => 1

/-- The hole of a HOLE target or plan; 0xFF for KERF (10.7). -/
def Place.holeByte : Place → Byte
  | .kerf => 0xFF
  | .hole h => BitVec.ofNat 8 h

def Way.code : Way → Byte
  | .done => 0
  | .failed => 1
  | .withdrawn => 2

def Occasion.code : Occasion → Byte
  | .startBlocked => 0
  | .noPlan => 1

def EncCause.code : EncCause → Byte
  | .skip => 0
  | .faultBegin => 1
  | .faultEnd => 2
  | .index => 3
  | .zeroSet => 4

def EncChannel.code : EncChannel → Byte
  | .x => 0
  | .y => 1
  | .both => 2

/-- The latches of a channel as bits (Table 10-6). -/
def Latches.code (l : Latches) : Byte :=
  (if l.fault then 1 else 0) + (if l.skip then 2 else 0) + (if l.zeroMark then 4 else 0) +
    (if l.suspect then 8 else 0)

def SelfTest.code : SelfTest → Byte
  | .running => 0
  | .pass => 1
  | .mapStore => 2

def HoleState.code : HoleState → Byte
  | .opened => 0
  | .blocked => 1
  | .lost => 2

/-- Identified setting: 0-7, UNKNOWN 8, 0xFF absent (Table 10-6). -/
def identByte : Option Ident → Byte
  | some (.setting i) => BitVec.ofNat 8 i
  | some .unknown => 8
  | none => 0xFF

def ErrCode.code : ErrCode → Byte
  | .noContour => 1
  | .width => 2
  | .classTabs => 3
  | .fewVertices => 4
  | .zeroSegment => 5
  | .loopLong => 6
  | .tabPlace => 7
  | .tabNarrow => 8
  | .tabOverlap => 9
  | .noHole => 10
  | .holeOwner => 11
  | .leadinZero => 12
  | .entryOff => 13
  | .entryInTab => 14

/-! ### The frame check (R149) -/

/-- One bit into the register: polynomial x^16 + x^12 + x^5 + 1. -/
def crcBit (reg : BitVec 16) (bit : Bool) : BitVec 16 :=
  if reg.msb != bit then (reg <<< 1) ^^^ 0x1021 else reg <<< 1

/-- One byte into the register, most significant bit first. -/
def crcByte (reg : BitVec 16) (b : Byte) : BitVec 16 :=
  [7, 6, 5, 4, 3, 2, 1, 0].foldl (fun r i => crcBit r (b.getLsbD i)) reg

/-- The check of some bytes: the register starts at all ones, sent without inversion. -/
def crc (bs : List Byte) : BitVec 16 := bs.foldl crcByte 0xFFFF

/-- The check as sent, high byte first. -/
def checkBytes (bs : List Byte) : List Byte := [(crc bs).extractLsb' 8 8, (crc bs).extractLsb' 0 8]

/-- A frame (Table 10-3): SYNC, LEN, KIND, TAG, body, CHECK over LEN to the end of the body. -/
def frameOf (kind tag : Byte) (body : List Byte) : List Byte :=
  let covered := BitVec.ofNat 8 body.length :: kind :: tag :: body
  0xC3 :: covered ++ checkBytes covered

/-! ### Requests (Tables 10-10 to 10-13) -/

/-- The requests. -/
inductive Req where
  | attentionRead | eventMask | eventClear | linkErrors | deviceStatus
  | runOpen | runContinue | runClose | settingChange | warnClear | runRead | planRead | positionRead
  | zeroSet | gapRead
  | threadBegin | threadDone | targetRead | wireCut
  | plateBegin | contourLoad | vertexAppend | holeLoad | plateArm | plateDisarm | plateClose | plateStatus
  | vertexRead | contourRead | holeRead | catchArm | catchDisarm | slugRemoved | contourVoid | holeReset
  | faultClear | configWrite | configRead | traceRead
  deriving DecidableEq, Repr

/-- The request codes. -/
def Req.code : Req → Byte
  | .attentionRead => 0x01
  | .eventMask => 0x02
  | .eventClear => 0x03
  | .linkErrors => 0x04
  | .deviceStatus => 0x05
  | .runOpen => 0x10
  | .runContinue => 0x11
  | .runClose => 0x12
  | .settingChange => 0x13
  | .warnClear => 0x14
  | .runRead => 0x15
  | .planRead => 0x16
  | .positionRead => 0x17
  | .zeroSet => 0x18
  | .gapRead => 0x19
  | .threadBegin => 0x20
  | .threadDone => 0x21
  | .targetRead => 0x22
  | .wireCut => 0x23
  | .plateBegin => 0x30
  | .contourLoad => 0x31
  | .vertexAppend => 0x32
  | .holeLoad => 0x33
  | .plateArm => 0x34
  | .plateDisarm => 0x35
  | .plateClose => 0x36
  | .plateStatus => 0x37
  | .vertexRead => 0x38
  | .contourRead => 0x39
  | .holeRead => 0x3A
  | .catchArm => 0x3B
  | .catchDisarm => 0x3C
  | .slugRemoved => 0x3D
  | .contourVoid => 0x3E
  | .holeReset => 0x3F
  | .faultClear => 0x40
  | .configWrite => 0x41
  | .configRead => 0x42
  | .traceRead => 0x43

/-- The links that serve a request. -/
def Req.servedOn : Req → Link → Bool
  | .attentionRead, _ | .eventMask, _ | .eventClear, _ | .linkErrors, _ | .deviceStatus, _ => true
  | .gapRead, .thread => false
  | .gapRead, _ => true
  | .runOpen, l | .runContinue, l | .runClose, l | .settingChange, l | .warnClear, l | .runRead, l
  | .planRead, l | .positionRead, l | .zeroSet, l => l == .motion
  | .threadBegin, l | .threadDone, l | .targetRead, l | .wireCut, l => l == .thread
  | .plateBegin, l | .contourLoad, l | .vertexAppend, l | .holeLoad, l | .plateArm, l | .plateDisarm, l
  | .plateClose, l | .plateStatus, l | .vertexRead, l | .contourRead, l | .holeRead, l | .catchArm, l
  | .catchDisarm, l | .slugRemoved, l | .contourVoid, l | .holeReset, l | .faultClear, l
  | .configWrite, l | .configRead, l | .traceRead, l => l == .cell

/-- Every request, in the order of its code. -/
def Req.all : List Req :=
  [.attentionRead, .eventMask, .eventClear, .linkErrors, .deviceStatus, .runOpen, .runContinue, .runClose,
    .settingChange, .warnClear, .runRead, .planRead, .positionRead, .zeroSet, .gapRead, .threadBegin,
    .threadDone, .targetRead, .wireCut] ++
  [.plateBegin, .contourLoad, .vertexAppend, .holeLoad, .plateArm, .plateDisarm, .plateClose, .plateStatus,
    .vertexRead, .contourRead, .holeRead, .catchArm, .catchDisarm, .slugRemoved, .contourVoid, .holeReset,
    .faultClear, .configWrite, .configRead, .traceRead]

/-- The request that a KIND names on a link, if it names one served there (R150). -/
def Req.ofKind (l : Link) (kind : Byte) : Option Req :=
  Req.all.find? (fun r => r.code == kind && r.servedOn l)

/-! ### Request bodies -/

/-- A body with no fields. -/
def parseNone : List Byte → Option Unit
  | [] => some ()
  | _ :: _ => none

/-- A body of one byte. -/
def parseByte : List Byte → Option Nat
  | [b] => some b.toNat
  | _ => none

/-- A set of event bits. -/
def parseSet : List Byte → Option EventSet
  | [a, b] => some (BitVec.ofNat 16 (leNat [a, b]))
  | _ => none

/-- RUN_OPEN's fields, as carried. -/
structure RunOpenReq where
  contour : Nat
  hole : Nat
  kind : Nat
  dir : Nat
  setting : Nat
  deriving DecidableEq, Repr

def parseRunOpen : List Byte → Option RunOpenReq
  | [c, h, k, d, e] => some ⟨c.toNat, h.toNat, k.toNat, d.toNat, e.toNat⟩
  | _ => none

def RunOpenReq.body (q : RunOpenReq) : List Byte :=
  leBytes 1 q.contour ++ leBytes 1 q.hole ++ leBytes 1 q.kind ++ leBytes 1 q.dir ++ leBytes 1 q.setting

/-- ZERO_SET's fields. -/
structure ZeroSetReq where
  x : BitVec 32
  y : BitVec 32
  deriving DecidableEq, Repr

def parseZeroSet : List Byte → Option ZeroSetReq
  | [a, b, c, d, e, f, g, h] => some ⟨BitVec.ofNat 32 (leNat [a, b, c, d]), BitVec.ofNat 32 (leNat [e, f, g, h])⟩
  | _ => none

def ZeroSetReq.body (q : ZeroSetReq) : List Byte := leBytes 4 q.x.toNat ++ leBytes 4 q.y.toNat

/-- THREAD_DONE's fields, as carried. -/
structure ThreadDoneReq where
  number : Nat
  result : Nat
  deriving DecidableEq, Repr

def parseThreadDone : List Byte → Option ThreadDoneReq
  | [n, r] => some ⟨n.toNat, r.toNat⟩
  | _ => none

def ThreadDoneReq.body (q : ThreadDoneReq) : List Byte := leBytes 1 q.number ++ leBytes 1 q.result

/-- A four-byte number. -/
def parseWord : List Byte → Option Nat
  | [a, b, c, d] => some (leNat [a, b, c, d])
  | _ => none

/-- VERTEX_READ's fields. -/
structure VertexReadReq where
  contour : Nat
  first : Nat
  count : Nat
  deriving DecidableEq, Repr

def parseVertexRead : List Byte → Option VertexReadReq
  | [c, f0, f1, n] => some ⟨c.toNat, leNat [f0, f1], n.toNat⟩
  | _ => none

def VertexReadReq.body (q : VertexReadReq) : List Byte :=
  leBytes 1 q.contour ++ leBytes 2 q.first ++ leBytes 1 q.count

/-- Points of six bytes each; what is left over is dropped. -/
def parsePoints : List Byte → List Point
  | a :: b :: c :: d :: e :: f :: rest => ⟨leInt [a, b, c], leInt [d, e, f]⟩ :: parsePoints rest
  | _ => []

/-- The bytes of points in their range. -/
def pointBytes (p : Point) : List Byte :=
  leBytes 3 (p.x % 16777216).toNat ++ leBytes 3 (p.y % 16777216).toNat

/-- Tabs of twelve bytes each (Table 10-7). -/
def parseTabs : List Byte → List DeclTab
  | a0 :: a1 :: b0 :: b1 :: b2 :: b3 :: c0 :: c1 :: d0 :: d1 :: d2 :: d3 :: rest =>
    ⟨⟨leNat [a0, a1], leNat [b0, b1, b2, b3]⟩, ⟨leNat [c0, c1], leNat [d0, d1, d2, d3]⟩⟩ :: parseTabs rest
  | _ => []

def tabBytes (t : DeclTab) : List Byte :=
  leBytes 2 t.start.seg ++ leBytes 4 t.start.off ++ leBytes 2 t.stop.seg ++ leBytes 4 t.stop.off

/-- CONTOUR_LOAD's fields, as carried (Table 10-7). -/
structure ContourLoadReq where
  index : Nat
  cls : Nat
  width : Nat
  tabs : List DeclTab
  deriving DecidableEq, Repr

/-- The length must be 5 + 12 × tab count, for the count the body carries (R150, Table 10-15). -/
def parseContourLoad : List Byte → Option ContourLoadReq
  | i :: k :: w0 :: w1 :: n :: rest =>
    if rest.length = 12 * n.toNat then some ⟨i.toNat, k.toNat, leNat [w0, w1], parseTabs rest⟩ else none
  | _ => none

def ContourLoadReq.body (q : ContourLoadReq) : List Byte :=
  leBytes 1 q.index ++ leBytes 1 q.cls ++ leBytes 2 q.width ++ leBytes 1 q.tabs.length ++ q.tabs.flatMap tabBytes

/-- VERTEX_APPEND's fields. -/
structure VertexAppendReq where
  contour : Nat
  points : List Point
  deriving DecidableEq, Repr

/-- The length must be 2 + 6 × vertex count (Table 10-15). -/
def parseVertexAppend : List Byte → Option VertexAppendReq
  | c :: n :: rest => if rest.length = 6 * n.toNat then some ⟨c.toNat, parsePoints rest⟩ else none
  | _ => none

def VertexAppendReq.body (q : VertexAppendReq) : List Byte :=
  leBytes 1 q.contour ++ leBytes 1 q.points.length ++ q.points.flatMap pointBytes

/-- HOLE_LOAD's fields, as carried (Table 10-8). -/
structure HoleLoadReq where
  index : Nat
  owner : Nat
  loc : Nat
  dirs : Nat
  centre : Point
  leadIn : List Point
  deriving DecidableEq, Repr

/-- The length must be 11 + 6 × lead-in count (Table 10-15). -/
def parseHoleLoad : List Byte → Option HoleLoadReq
  | i :: o :: l :: d :: x0 :: x1 :: x2 :: y0 :: y1 :: y2 :: n :: rest =>
    if rest.length = 6 * n.toNat then
      some ⟨i.toNat, o.toNat, l.toNat, d.toNat, ⟨leInt [x0, x1, x2], leInt [y0, y1, y2]⟩, parsePoints rest⟩
    else none
  | _ => none

def HoleLoadReq.body (q : HoleLoadReq) : List Byte :=
  leBytes 1 q.index ++ leBytes 1 q.owner ++ leBytes 1 q.loc ++ leBytes 1 q.dirs ++ pointBytes q.centre ++
    leBytes 1 q.leadIn.length ++ q.leadIn.flatMap pointBytes

/-- A field of a long body: `w` bytes from an offset. -/
def fieldAt (body : List Byte) (off w : Nat) : Nat := leNat ((body.drop off).take w)

/-- CONFIG_WRITE's body taken into a record, each value clamped to its range (R162, Tables 10-16 and 11-1). -/
def clampedConfig (b : List Byte) : ConfigRecord where
  samplePeriod := clampNat 1 32 (fieldAt b 0 1)
  windowPeriod := clampNat 1 64 (fieldAt b 1 1)
  pathTol := clampNat 0 65535 (fieldAt b 2 2)
  offpathLimit := clampNat 1 255 (fieldAt b 4 1)
  dryLimit := clampNat 0 65535 (fieldAt b 5 2)
  warnDist := clampNat 0 65535 (fieldAt b 7 2)
  warnHyst := clampNat 0 4095 (fieldAt b 9 2)
  warnMode := if fieldAt b 11 1 = 0 then .level else .latched
  permitLead := clampNat 0 4095 (fieldAt b 12 2)
  resumeTol := clampNat 0 4095 (fieldAt b 14 2)
  threadTol := clampNat 0 65535 (fieldAt b 16 2)
  entryTol := clampNat 0 4095 (fieldAt b 18 2)
  kerfLimit := clampNat 0 3 (fieldAt b 20 1)
  holeLimit := clampNat 1 7 (fieldAt b 21 1)
  backoff := clampNat 0 65535 (fieldAt b 22 2)
  shortQual := clampNat 1 255 (fieldAt b 24 1)
  pinchTime := clampNat 1 255 (fieldAt b 25 1)
  strayLimit := clampNat 0 255 (fieldAt b 26 1)
  mismatchLimit := clampNat 1 32 (fieldAt b 27 1)
  settleTime := clampNat 0 255 (fieldAt b 28 1)
  settleOnResume := fieldAt b 29 1 != 0
  indexPitchX := clampNat 0 16777215 (fieldAt b 30 3)
  indexPitchY := clampNat 0 16777215 (fieldAt b 33 3)
  indexTol := clampNat 0 15 (fieldAt b 36 1)
  settings := (List.range 8).map (fun i =>
    (clampNat 0 65535 (fieldAt b (37 + 3 * i) 2), clampNat 0 255 (fieldAt b (39 + 3 * i) 1)))
  traceDecimation := clampNat 1 16 (fieldAt b 61 1)
  traceShift := clampNat 0 15 (fieldAt b 62 1)
  traceThreshold := clampNat 1 64 (fieldAt b 63 1)

/-- CONFIG_WRITE's body is 64 bytes. -/
def parseConfig (b : List Byte) : Option ConfigRecord := if b.length = 64 then some (clampedConfig b) else none

/-- The record in the layout of Table 10-16 (R164). -/
def configFields (c : ConfigRecord) : List Byte :=
  natField 1 c.samplePeriod ++ natField 1 c.windowPeriod ++ natField 2 c.pathTol ++ natField 1 c.offpathLimit ++
  natField 2 c.dryLimit ++ natField 2 c.warnDist ++ natField 2 c.warnHyst ++
  flagField (c.warnMode == .latched) ++ natField 2 c.permitLead ++ natField 2 c.resumeTol ++
  natField 2 c.threadTol ++ natField 2 c.entryTol ++ natField 1 c.kerfLimit ++ natField 1 c.holeLimit ++
  natField 2 c.backoff ++ natField 1 c.shortQual ++ natField 1 c.pinchTime ++ natField 1 c.strayLimit ++
  natField 1 c.mismatchLimit ++ natField 1 c.settleTime ++ flagField c.settleOnResume ++
  natField 3 c.indexPitchX ++ natField 3 c.indexPitchY ++ natField 1 c.indexTol ++
  c.settings.flatMap (fun e => natField 2 e.1 ++ natField 1 e.2) ++
  natField 1 c.traceDecimation ++ natField 1 c.traceShift ++ natField 1 c.traceThreshold

end Sys2Proof.Machine
end

