-- ==== Sys2Proof/Machine/Geometry.lean ====
section
/-! DEFINITION. Arithmetic of lengths and positions (chapters 1 and 3): integer square root, projection, stepping
along a path, points from loop positions, run distances. -/

namespace Sys2Proof.Machine

/-! ### Lengths (R17) -/

/-- Fixes the bits of a square root from bit `k - 1` down, above the bits in `root`. -/
def isqrtBits (n : Nat) : Nat → Nat → Nat
  | 0, root => root
  | k + 1, root => if (root + 2 ^ k) * (root + 2 ^ k) ≤ n then isqrtBits n k (root + 2 ^ k) else isqrtBits n k root

/-- The greatest whole number whose square does not exceed `n` (R17). -/
def isqrt (n : Nat) : Nat := isqrtBits n (n.log2 / 2 + 1) 0

/-- The length of the straight stretch between two points (R17). -/
def segLength (a b : Point) : Nat :=
  isqrt ((b.x - a.x) * (b.x - a.x) + (b.y - a.y) * (b.y - a.y)).toNat

/-- A straight segment with its length from the Plate Map (R42). -/
structure Leg where
  a : Point
  b : Point
  len : Nat
  deriving DecidableEq, Repr

/-- The legs that join consecutive points, with their lengths in order. -/
def legsThrough : List Point → List Nat → List Leg
  | p :: q :: rest, n :: lens => ⟨p, q, n⟩ :: legsThrough (q :: rest) lens
  | _, _ => []

/-- The points of a closed loop, vertex 0 again at the end (1.2). -/
def closed : List Point → List Point
  | [] => []
  | p :: rest => p :: rest ++ [p]

/-- The lengths between consecutive points. -/
def lengthsThrough : List Point → List Nat
  | p :: q :: rest => segLength p q :: lengthsThrough (q :: rest)
  | _ => []

/-- The start offsets of segments of given lengths, from an offset on (R17). -/
def offsetsFrom : Nat → List Nat → List Nat
  | _, [] => []
  | s, n :: lens => s :: offsetsFrom (s + n) lens

/-- The loop's legs, in loop order. -/
def Contour.legs (c : Contour) : List Leg := legsThrough (closed c.vertices) c.g.segLen

/-- The lead-in's legs, from the centre outward (R7). -/
def Hole.legs (h : Hole) : List Leg := legsThrough (h.centre :: h.leadIn) h.g.segLen

/-! ### Projection (R42) -/

/-- along and dev of a point on a segment. -/
structure Proj where
  along : Int
  dev : Nat
  deriving DecidableEq, Repr

/-- R42's dot. -/
def Leg.dot (s : Leg) (p : Point) : Int := (p.x - s.a.x) * (s.b.x - s.a.x) + (p.y - s.a.y) * (s.b.y - s.a.y)

/-- R42's cross. -/
def Leg.cross (s : Leg) (p : Point) : Int := (p.x - s.a.x) * (s.b.y - s.a.y) - (p.y - s.a.y) * (s.b.x - s.a.x)

/-- R42. `/` on Int by a positive divisor rounds toward negative infinity. -/
def Leg.project (s : Leg) (p : Point) : Proj := ⟨s.dot p / s.len, (s.cross p).natAbs / s.len⟩

/-- along clamped to the segment. -/
def Leg.clamp (s : Leg) (along : Int) : Nat := (clampInt 0 s.len along).toNat

/-! ### Stepping (R43 to R45, R50) -/

/-- A segment of a path; beyond its end, a point at the origin that no sample reaches (log 17). -/
def legAt (legs : List Leg) (i : Nat) : Leg := legs[i]?.getD ⟨⟨0, 0⟩, ⟨0, 0⟩, 0⟩

/-- The next segment in path order: on a loop the first follows the last; on a lead-in nothing does (R50). -/
def nextSeg (n : Nat) (wraps : Bool) (i : Nat) : Option Nat :=
  if i + 1 < n then some (i + 1) else if wraps then some 0 else none

/-- The segment before: on a loop the last precedes the first (R43). -/
def prevSeg (n : Nat) (wraps : Bool) (i : Nat) : Option Nat :=
  if i = 0 then (if wraps then some (n - 1) else none) else some (i - 1)

/-- What the tests of one segment say: move to a segment, or stop here with this along. -/
inductive Move where
  | to (j : Nat)
  | stop (along : Int)
  deriving DecidableEq, Repr

/-- A hand-over to a segment is possible: along in range and dev within tolerance (R44). -/
def acceptsHandOver (legs : List Leg) (tol : Nat) (p : Point) (j : Nat) : Bool :=
  let q := (legAt legs j).project p
  decide (0 ≤ q.along) && decide (q.along ≤ (legAt legs j).len) && decide (q.dev ≤ tol)

/-- The corner hand-over of R44, tried forward and then back. -/
def handOver (legs : List Leg) (wraps : Bool) (tol : Nat) (p : Point) (i : Nat) (along : Int) : Move :=
  if ((legAt legs i).project p).dev ≤ tol then .stop along
  else
    match (nextSeg legs.length wraps i).filter (acceptsHandOver legs tol p) with
    | some j => .to j
    | none =>
      match (prevSeg legs.length wraps i).filter (acceptsHandOver legs tol p) with
      | some j => .to j
      | none => .stop along

/-- The tests of R43 in their order, with the dead zone of R44; a lead-in ends instead of wrapping (R50). -/
def stepTest (legs : List Leg) (wraps : Bool) (tol : Nat) (p : Point) (i : Nat) : Move :=
  let leg := legAt legs i
  let along := (leg.project p).along
  if (leg.len : Int) < along then
    match nextSeg legs.length wraps i with
    | none => .stop along
    | some j => if 0 ≤ ((legAt legs j).project p).along then .to j else .stop leg.len
  else if along < 0 then
    match prevSeg legs.length wraps i with
    | none => handOver legs wraps tol p i 0
    | some j => if ((legAt legs j).project p).along ≤ (legAt legs j).len then .to j else .stop 0
  else handOver legs wraps tol p i along

/-- Where stepping ended; `capped` when a further step was called for (R45). -/
structure Reached where
  seg : Nat
  along : Int
  dev : Nat
  capped : Bool
  deriving DecidableEq, Repr

/-- Steps along a path, at most `k` times (R43, R45). -/
def walk (legs : List Leg) (wraps : Bool) (tol : Nat) (p : Point) : Nat → Nat → Reached
  | k, i =>
    let q := (legAt legs i).project p
    match stepTest legs wraps tol p i with
    | .stop along => ⟨i, along, q.dev, false⟩
    | .to j =>
      match k with
      | 0 => ⟨i, q.along, q.dev, true⟩
      | k + 1 => walk legs wraps tol p k j

/-- A sample makes at most 4 steps (R45). -/
def maxSteps : Nat := 4

/-! ### Points from distances (R46, R47) -/

/-- The segment that holds a position, and the distance along it (R46). -/
def holding : List Nat → Nat → Nat × Nat
  | [], s => (0, s)
  | n :: lens, s => if s < n then (0, s) else ((holding lens (s - n)).1 + 1, (holding lens (s - n)).2)

/-- n / d to the nearest whole number, halves away from zero (00_scope.md Table 0-2). -/
def roundDiv (n : Int) (d : Nat) : Int :=
  if 0 ≤ n then (2 * n + d) / (2 * d) else -((2 * (-n) + d) / (2 * d))

/-- The point at a distance along a segment (R46). -/
def Leg.pointAt (s : Leg) (along : Nat) : Point :=
  ⟨s.a.x + roundDiv ((s.b.x - s.a.x) * along) s.len, s.a.y + roundDiv ((s.b.y - s.a.y) * along) s.len⟩

/-- The point of a loop position (R46). -/
def Contour.pointOf (c : Contour) (s : Nat) : Point :=
  (legAt c.legs (holding c.g.segLen s).1).pointAt (holding c.g.segLen s).2

/-- The loop position of a run distance (R47). -/
def loopPos (e0 : Nat) (dir : Dir) (loopLen : Nat) (q : Int) : Nat :=
  match dir with
  | .fwd => (((e0 : Int) + q) % loopLen).toNat
  | .rev => (((e0 : Int) - q) % loopLen).toNat

/-- The run distance of a loop position (R47). -/
def runDist (e0 : Nat) (dir : Dir) (loopLen : Nat) (s : Nat) : Nat :=
  match dir with
  | .fwd => (((s : Int) - e0) % loopLen).toNat
  | .rev => (((e0 : Int) - s) % loopLen).toNat

/-- A change of loop position taken the short way round (R52). -/
def normDelta (loopLen : Nat) (delta : Int) : Int :=
  if (loopLen : Int) < 2 * delta then delta - loopLen
  else if 2 * delta ≤ -(loopLen : Int) then delta + loopLen
  else delta

/-- Adds to the run distance, saturating at its ends (R52). -/
def addDist (r delta : Int) : Int := clampInt Config.distMin Config.distMax (r + delta)

end Sys2Proof.Machine
end

