-- ==== Sys2Proof/Machine/Coverage.lean ====
section
/-! DEFINITION. The Coverage Unit (chapter 5): stretches, credits, uncovered stretches, limits, remnants. Cells are
counted with intervals, in loop positions or in run distances. -/

namespace Sys2Proof.Machine

/-! ### Stretches (R82) -/

/-- The stretch that run distances q1 to q2 name (R82). -/
def runStretch (e0 : Nat) (dir : Dir) (loopLen q1 q2 : Nat) : Stretch :=
  match dir with
  | .fwd => ⟨(e0 + q1) % loopLen, q2 - q1⟩
  | .rev => ⟨(((e0 : Int) - q2) % loopLen).toNat, q2 - q1⟩

/-- A stretch as one or two intervals that do not wrap (R84, step 2). -/
def Stretch.pieces (loopLen : Nat) (t : Stretch) : List Span :=
  if t.first + t.len ≤ loopLen then [⟨t.first, t.first + t.len⟩]
  else [⟨t.first, loopLen⟩, ⟨0, t.first + t.len - loopLen⟩]

/-- A cell lies in one of some intervals. -/
def inSpans (x : Nat) (spans : List Span) : Bool := spans.any (fun p => decide (p.lo ≤ x) && decide (x < p.hi))

/-! ### The coverage list (R83, R84) -/

/-- Merges one piece: every interval that overlaps or touches it is replaced by the hull (R84, step 3). -/
def mergePiece : List Span → Span → List Span
  | [], p => [p]
  | x :: rest, p =>
    if x.hi < p.lo then x :: mergePiece rest p
    else if p.hi < x.lo then p :: x :: rest
    else mergePiece rest ⟨min x.lo p.lo, max x.hi p.hi⟩

/-- Credits the run distances from a1 to a2 (R84). -/
def creditList (e0 : Nat) (dir : Dir) (loopLen : Nat) (cov : List Span) (a1 a2 : Nat) : List Span :=
  ((runStretch e0 dir loopLen a1 a2).pieces loopLen).foldl mergePiece cov

/-- The form of R83: ascending, disjoint, non-touching, none empty, within the loop, at or above `from`. -/
def coverageWf (loopLen : Nat) : Nat → List Span → Bool
  | _, [] => true
  | low, p :: rest =>
    decide (low ≤ p.lo) && decide (p.lo < p.hi) && decide (p.hi ≤ loopLen) && coverageWf loopLen (p.hi + 1) rest

/-! ### Uncovered stretches (R85) -/

/-- The uncovered intervals from a loop position on. -/
def gapsFrom (loopLen : Nat) : Nat → List Span → List Span
  | x, [] => if x < loopLen then [⟨x, loopLen⟩] else []
  | x, p :: rest => (if x < p.lo then [⟨x, p.lo⟩] else []) ++ gapsFrom loopLen p.hi rest

/-- The uncovered intervals, ascending. -/
def uncoveredSpans (loopLen : Nat) (cov : List Span) : List Span := gapsFrom loopLen 0 cov

/-- An interval as a stretch. -/
def Span.stretch (p : Span) : Stretch := ⟨p.lo, p.hi - p.lo⟩

/-- The uncovered stretches in ascending order of first cell; one that crosses loop position 0 counts as one (R85). -/
def uncovered (loopLen : Nat) (cov : List Span) : List Stretch :=
  match uncoveredSpans loopLen cov with
  | [] => []
  | [p] => [p.stretch]
  | p :: q :: rest =>
    let last := (q :: rest).getLastD q
    if p.lo = 0 ∧ last.hi = loopLen then
      ((q :: rest).dropLast.map Span.stretch) ++ [⟨last.lo, last.hi - last.lo + p.hi⟩]
    else (p :: q :: rest).map Span.stretch

/-- The coverage is full (R83). -/
def fullCoverage (loopLen : Nat) (cov : List Span) : Bool := (uncoveredSpans loopLen cov).isEmpty

/-! ### Tabs (R86) -/

/-- The protected tabs, each as a stretch: the declared ones, then the implied one. -/
def Contour.protectedTabs (c : Contour) : List Stretch := c.g.tabs.map Span.stretch ++ c.lv.implied.toList

/-! ### Run distances of stretches -/

/-- The run distances whose cells make up a stretch of the loop (R82), as intervals within 0 to Lc. -/
def Stretch.runPieces (e0 : Nat) (dir : Dir) (loopLen : Nat) (t : Stretch) : List Span :=
  match dir with
  | .fwd => Stretch.pieces loopLen ⟨runDist e0 .fwd loopLen t.first, t.len⟩
  | .rev => Stretch.pieces loopLen ⟨runDist e0 .rev loopLen (t.first + t.len), t.len⟩

/-- The same for several stretches. -/
def runPieces (e0 : Nat) (dir : Dir) (loopLen : Nat) (ts : List Stretch) : List Span :=
  ts.flatMap (Stretch.runPieces e0 dir loopLen)

/-- The least run distance from s0 up that lies in one of some intervals. -/
def leastFrom (s0 : Nat) : List Span → Option Nat
  | [] => none
  | p :: rest =>
    let here := if s0 < p.hi then some (max s0 p.lo) else none
    match here, leastFrom s0 rest with
    | some x, some y => some (min x y)
    | some x, none => some x
    | none, found => found

/-! ### Cut-from distance, limit, stop point (R88 to R94) -/

/-- The cut-from distance (R88). -/
def cutFrom (kind : RunKind) (e0 : Nat) (dir : Dir) (c : Contour) : Nat :=
  match kind with
  | .skim => 0
  | .first | .release =>
    (leastFrom 0 (runPieces e0 dir c.g.loopLen ((uncoveredSpans c.g.loopLen c.lv.coverage).map Span.stretch))).getD
      c.g.loopLen

/-- What a computation of the limits gives (R89). `held` is the length held back. -/
structure Limits where
  limit : Nat
  stop : Int
  final : Bool
  holdback : Bool
  held : Nat
  deriving DecidableEq, Repr

/-- The computation of R89 to R93 from the search start s0. -/
def computeLimits (kind : RunKind) (e0 : Nat) (dir : Dir) (c : Contour) (armed : Bool) (lead s0 : Nat) : Limits :=
  let lc := c.g.loopLen
  let open_ := runPieces e0 dir lc ((uncoveredSpans lc c.lv.coverage).map Span.stretch)
  let cut := runPieces e0 dir lc (c.lv.coverage.map Span.stretch)
  let tabs := runPieces e0 dir lc c.protectedTabs
  match kind with
  | .skim =>
    let limit := (leastFrom 0 open_).getD lc
    ⟨limit, (limit : Int) - lead, false, false, 0⟩
  | .first | .release =>
    let barriers := if kind = .first then cut ++ tabs else cut
    let limit := (leastFrom s0 barriers).getD lc
    let tabEdge := decide (kind = .first) && decide (limit < lc) && inSpans limit tabs
    let lastStretch := open_.all (fun p => decide (s0 ≤ p.lo) && decide (p.hi ≤ limit))
    let stop : Int := if tabEdge then (limit : Int) - lead else limit
    if !lastStretch then ⟨limit, stop, false, false, 0⟩
    else if armed then ⟨limit, stop, true, false, 0⟩
    else
      let short := max s0 (limit - c.width)
      ⟨short, (short : Int) - lead, false, true, limit - short⟩

/-! ### Remnants (R96) -/

/-- Cells by which a stretch goes beyond a tab before and after it, if they share a cell. -/
def beyond (loopLen : Nat) (t tab : Stretch) : Option (Nat × Nat) :=
  let off := (tab.first + loopLen - t.first) % loopLen
  let head := decide (off < t.len)
  let tail := decide (loopLen < off + tab.len)
  match head, tail with
  | false, false => none
  | true, false => some (off, t.len - (off + tab.len))
  | false, true => some (0, t.len - (off + tab.len - loopLen))
  | true, true => some (loopLen - tab.len, loopLen - tab.len)

/-- An uncovered stretch is a tab remnant (R96). -/
def isRemnant (loopLen lead : Nat) (tabs : List Stretch) (t : Stretch) : Bool :=
  tabs.any (fun tab =>
    match beyond loopLen t tab with
    | some (before, after) => decide (before ≤ lead) && decide (after ≤ lead)
    | none => false)

/-- The Coverage Unit's answers for an evaluation (R96). -/
structure Answers where
  full : Bool
  empty : Bool
  allRemnants : Bool
  shortest : Option Nat
  deriving DecidableEq, Repr

/-- The least of some lengths. -/
def least : List Nat → Option Nat
  | [] => none
  | n :: rest =>
    match least rest with
    | none => some n
    | some m => some (min n m)

/-- R96, with the permit_lead in force. -/
def Contour.answers (c : Contour) (lead : Nat) : Answers :=
  let stretches := uncovered c.g.loopLen c.lv.coverage
  let test := isRemnant c.g.loopLen lead c.protectedTabs
  { full := fullCoverage c.g.loopLen c.lv.coverage
    empty := c.lv.coverage.isEmpty
    allRemnants := stretches.all test
    shortest := least ((stretches.filter test).map (·.len)) }

end Sys2Proof.Machine
end

