-- ==== Sys2Proof/Machine/Retention.lean ====
section
/-! DEFINITION. The Retention Unit (chapter 8): evaluation of a contour, its effects, catch set, merging of credits. -/

namespace Sys2Proof.Machine

/-- The state an evaluation gives (R133). -/
def retentionState (voided removed armed tilt : Bool) (w : Nat) (a : Answers) : RState :=
  if voided then .void
  else if a.full then (if removed then .removed else if armed then .free else .loose)
  else if a.empty then .planned
  else if a.allRemnants then (if tilt || (a.shortest.any (fun n => decide (n < w))) then .suspect else .held)
  else .partly

/-- The states of a contour whose coverage is full. -/
def RState.isFull : RState → Bool
  | .free | .loose | .removed => true
  | .planned | .partly | .held | .suspect | .void => false

/-- The evaluation of one contour entry (R133). -/
def Contour.evaluated (c : Contour) (armed : Bool) (lead : Nat) : RState :=
  retentionState c.lv.voided c.lv.removed armed c.lv.tilt c.width (c.answers lead)

/-- Every INSIDE hole of a contour becomes LOST (R134). -/
def loseInside (idx : Nat) (holes : Table Hole) : Table Hole :=
  Table.mapAll holes (fun _ h =>
    if h.owner == idx && h.loc == .inside then { h with live := h.live.map (fun v => { v with state := .lost }) }
    else h)

/-- The effects of a change of retention state, in order (R134, R140). -/
def changeRetention (idx : Nat) (new : RState) (s : State) : State :=
  let s1 := s.modLive idx (fun v => { v with state := new })
  let s2 := if new.isFull then { s1 with plate := { s1.plate with holes := loseInside idx s1.plate.holes } } else s1
  post (.contourState [(idx, new)]) s2

/-- An evaluation of a contour (R133, R134). -/
def evaluate (idx : Nat) (s : State) : State :=
  match s.contour? idx with
  | none => s
  | some c =>
    let new := c.evaluated (s.catchArmed idx) s.cfg.permitLead
    if new = c.lv.state then s else changeRetention idx new s

/-- Every defined contour of an ARMED or ACTIVE plate is evaluated, in ascending index (R134, R163). -/
def evaluateAll (s : State) : State :=
  if s.plate.state.live then (s.plate.contours.map (·.1)).foldl (fun t i => evaluate i t) s else s

/-- A credited stretch of run distances is merged; a merge that covers a cell evaluates the contour (R84, R134). -/
def mergeCredit (run : Run) (a1 a2 : Nat) (s : State) : State :=
  match s.contour? run.contour with
  | none => s
  | some c =>
    let cov := creditList run.e0 run.dir c.g.loopLen c.lv.coverage a1 a2
    if cov = c.lv.coverage then s
    else evaluate run.contour (s.modLive run.contour (fun v => { v with coverage := cov }))

/-- The contour enters the catch set, which is kept ascending; "The catch set keeps no order" (R132). -/
def catchInsert (idx : Nat) : List Nat → List Nat
  | [] => [idx]
  | k :: rest => if idx < k then idx :: k :: rest else if idx = k then k :: rest else k :: catchInsert idx rest

/-- The contour leaves the catch set. -/
def catchRemove (idx : Nat) (set : List Nat) : List Nat := set.filter (fun k => k != idx)

/-- The tilt mark is set at the Gap Monitor's request (R135). -/
def setTilt (idx : Nat) (s : State) : State :=
  match s.contour? idx with
  | none => s
  | some c => if c.lv.tilt then s else evaluate idx (s.modLive idx (fun v => { v with tilt := true }))

end Sys2Proof.Machine
end

