-- ==== Sys2Proof/Machine/RunControl.lean ====
section
/-! DEFINITION. The Run Controller's shared operations (chapter 4): phase changes, settle triggers, halts, the stop
point, the warn indicator, recomputation of limits. -/

namespace Sys2Proof.Machine

/-! ### Settle window and eligibility (R102, R111) -/

/-- The eligibility mark becomes ineligible (R102). -/
def ineligible (s : State) : State := s.modGap (fun g => { g with eligible := false })

/-- A trigger of the settle window (R111). -/
def settleTrigger (s : State) : State :=
  s.modGap (fun g => { g with
    eligible := false
    settle := if s.cfg.settleTime = 0 then g.settle else some (s.cfg.settleTime * Config.refsPerMs) })

/-- A trigger that settle_on_resume "no" leaves out (R69). -/
def settleOnResume (s : State) : State := if s.cfg.settleOnResume then settleTrigger s else s

/-- The mismatch counter becomes 0 (R103). -/
def clearMismatch (s : State) : State := s.modGap (fun g => { g with mismatch := 0 })

/-! ### Samples in progress (R40) -/

/-- The sample in progress, if any, is abandoned; the presence it read is set again (R40). -/
def abandonSample (s : State) : State :=
  match s.sampling with
  | .inProgress _ _ presence =>
    { s with sampling := .abandoned, gap := { s.gap with presence := s.gap.presence || presence } }
  | .none | .abandoned => s

/-! ### Phases (R64) -/

/-- Windows stay eligible in these phases (R102). -/
def Phase.judged : Phase → Bool
  | .leadIn | .cutting => true
  | .awaitThread | .approach | .atLimit | .broken | .stranded | .halted => false

/-- The open run's phase changes, and RUN_PHASE is posted (R64); the window's mark follows (R102). -/
def setPhase (p : Phase) (s : State) : State :=
  match s.run with
  | none => s
  | some run =>
    let s1 := { s with run := some { run with phase := p } }
    let s2 := post (.runPhase run.number (.phase p)) s1
    if p.judged then s2 else ineligible s2

/-! ### Halts (R73, R74) -/

/-- The run enters HALTED from the phase it is in (R73). -/
def haltRun (causes : Causes) (s : State) : State :=
  match s.run with
  | none => s
  | some run =>
    let s1 := abandonSample s
    let s2 := { s1 with run := some { run with halt := some ⟨causes, run.phase⟩ } }
    setPhase .halted (post (.halt run.number causes run.phase) s2)

/-- A halt cause arises (R73, R74). -/
def arise (causes : Causes) (s : State) : State :=
  match s.run with
  | none => s
  | some run =>
    if run.phase.tracking then haltRun causes s
    else
      match run.phase, run.halt with
      | .halted, some h =>
        let all := h.causes.union causes
        if all = h.causes then s
        else post (.halt run.number all h.back) { s with run := some { run with halt := some ⟨all, h.back⟩ } }
      | _, _ => s

/-- What a standing ENCODER or VIOLATION condition does to a run that has just entered one of the four phases
(R73). Between the two changes SPARK_OK may show high (R144): a free value decides (log 10). -/
def haltIfStanding (s : State) : State :=
  if s.standing.any then
    let s1 :=
      if s.sparkCond && !s.sparkOk then
        (if Config.permitGlimpse (takeFree s).1 then drivePermits (takeFree s).2 else (takeFree s).2)
      else s
    haltRun s.standing s1
  else s

/-- The settle trigger that goes with the entry to a phase (R69). -/
def entryTrigger (p : Phase) (s : State) : State :=
  match p with
  | .leadIn => settleTrigger s
  | .cutting => settleOnResume s
  | .awaitThread | .approach | .atLimit | .broken | .stranded | .halted => s

/-- The run enters one of the four tracking phases (R69, R73). -/
def enterTracking (p : Phase) (s : State) : State := haltIfStanding (entryTrigger p (setPhase p s))

/-- The AT_LIMIT event (R67). -/
def postAtLimit (s : State) : State :=
  match s.run with
  | none => s
  | some run => post (.atLimit run.number run.stop (testedValue run s.prog)) s

/-- A cause moves the run into CUTTING, or into AT_LIMIT where the stop point test already holds (R67). -/
def enterCutting (s : State) : State :=
  match s.run with
  | none => s
  | some run => if stopReached run s.prog then enterTracking .atLimit (postAtLimit s) else enterTracking .cutting s

/-! ### Warn indicator (R70, R71) -/

/-- The warn indicator is evaluated at a sample taken in CUTTING (R70, R71). -/
def evaluateWarn (s : State) : State :=
  match s.run with
  | none => s
  | some run =>
    let rem := remaining run s.prog
    if !run.warn && decide (rem ≤ s.cfg.warnDist) then
      post (.warn run.number rem) { s with run := some { run with warn := true } }
    else if run.warn && s.cfg.warnMode == .level && decide (((s.cfg.warnDist + s.cfg.warnHyst : Nat) : Int) < rem) then
      { s with run := some { run with warn := false } }
    else s

/-! ### Limits (R68, R89) -/

/-- The computation of R89 for the open run, from its frontier. -/
def limitsNow (s : State) (run : Run) (c : Contour) : Limits :=
  computeLimits run.kind run.e0 run.dir c (s.catchArmed run.contour) s.cfg.permitLead s.prog.a

/-- CATCH_NEEDED, where a computation sets the holdback flag anew (R93). -/
def postCatchNeeded (run : Run) (held : Bool) (lim : Limits) (s : State) : State :=
  if lim.holdback && !held then post (.catchNeeded run.number run.contour lim.held) s else s

/-- The run record takes the new limits (R68). -/
def Run.withLimits (run : Run) (lim : Limits) : Run :=
  { run with limit := lim.limit, stop := lim.stop, final := lim.final, holdback := lim.holdback }

/-- The warn indicator at a recomputation (R68). -/
def warnAfterLimits (cfg : ConfigRecord) (prog : Progress) (run : Run) : Run :=
  if run.warn && decide (((cfg.warnDist + cfg.warnHyst : Nat) : Int) < remaining run prog) then
    { run with warn := false }
  else run

/-- The return phase at a recomputation (R68). -/
def haltAfterLimits (prog : Progress) (run : Run) : Run :=
  match run.phase, run.halt with
  | .halted, some ⟨causes, .atLimit⟩ =>
    if stopReached run prog then run else { run with halt := some ⟨causes, .cutting⟩ }
  | _, _ => run

/-- The limits are computed again and the Run Controller acts on them (R68, R89); a sample in progress is
abandoned (R40). -/
def recomputeLimits (s : State) : State :=
  match s.run with
  | none => s
  | some run =>
    match s.contour? run.contour with
    | none => s
    | some c =>
      let lim := limitsNow s run c
      let run1 := haltAfterLimits s.prog (warnAfterLimits s.cfg s.prog (run.withLimits lim))
      let s1 := postCatchNeeded run run.holdback lim { abandonSample s with run := some run1 }
      if run.phase = .atLimit ∧ stopReached run1 s.prog = false then enterTracking .cutting s1 else s1

end Sys2Proof.Machine
end

