-- ==== Sys2Proof/Machine/Planner.lean ====
section
/-! DEFINITION. The Rethread Planner's shared operations (chapter 7) and the path initialisations it asks for (R53). -/

namespace Sys2Proof.Machine

/-! ### Path initialisation (R53) -/

/-- What both forms do. -/
def pathReset (s : State) : State :=
  { s with prog := { s.prog with offPath := 0, dry := 0 }, gap := { s.gap with presence := false } }

/-- The lead-in start at hole h (R53). -/
def leadInStart (h : Nat) (s : State) : State :=
  match s.run with
  | none => s
  | some run =>
    match s.contour? run.contour, s.hole? h with
    | some c, some hole =>
      let s1 := pathReset s
      { s1 with prog := { s1.prog with
          path := .leadIn h, seg := 0, along := 0, dev := 0, lam := 0, sOld := none
          r := runDist run.e0 run.dir c.g.loopLen hole.g.entry } }
    | _, _ => s

/-- The loop start at run distance q (R53). -/
def loopStart (q : Nat) (s : State) : State :=
  match s.run with
  | none => s
  | some run =>
    match s.contour? run.contour with
    | none => s
    | some c =>
      let s1 := pathReset s
      let pos := loopPos run.e0 run.dir c.g.loopLen q
      { s1 with prog := { s1.prog with
          path := .loop, seg := (holding c.g.segLen pos).1, along := (holding c.g.segLen pos).2, dev := 0
          sOld := some pos, r := q } }

/-! ### Plan (R118, R119) -/

/-- The plate point of a run distance: R47, then R46. -/
def pointOfRun (run : Run) (c : Contour) (q : Nat) : Point := c.pointOf (loopPos run.e0 run.dir c.g.loopLen q)

/-- The directions a hole allows include a direction (R62). -/
def Dirs.allows : Dirs → Dir → Bool
  | .both, _ => true
  | .fwd, .fwd => true
  | .rev, .rev => true
  | .fwd, .rev => false
  | .rev, .fwd => false

/-- A HOLE plan for a hole (R119). -/
def holePlan (run : Run) (c : Contour) (brk : BreakRecord) (h : Nat) (hole : Hole) : Plan where
  place := .hole h
  backoff := none
  target := hole.centre
  resume := brk.a
  resumePoint := pointOfRun run c brk.a
  cutsLeadIn := !hole.lv.leadInCut && run.kind != .skim

/-- A KERF plan (R119). -/
def kerfPlan (run : Run) (c : Contour) (brk : BreakRecord) (backoff : Nat) : Plan where
  place := .kerf
  backoff := some (brk.a - backoff)
  target := pointOfRun run c (brk.a - backoff)
  resume := brk.a
  resumePoint := pointOfRun run c brk.a
  cutsLeadIn := false

/-- A hole qualifies as an alternate (R118, step 3). -/
def qualifies (run : Run) (c : Contour) (a : Nat) (h : Nat) (hole : Hole) : Bool :=
  h != run.hole && hole.owner == run.contour && hole.lv.state == .opened && hole.dirs.allows run.dir &&
    (run.kind != .skim || hole.lv.leadInCut) &&
    decide (runDist run.e0 run.dir c.g.loopLen hole.g.entry ≤ a)

/-- The first alternate hole in ascending index (R118, step 3). -/
def alternate (run : Run) (c : Contour) (a : Nat) (holes : Table Hole) : Option (Nat × Hole) :=
  holes.find? (fun e => qualifies run c a e.1 e.2)

/-- A break is a loop break when the path at break is no lead-in (7.2). -/
def Path.isLoopBreak : Path → Bool
  | .leadIn _ => false
  | .loop | .none => true

/-- The plan for a RESUME target (R118). -/
def choosePlan (s : State) (run : Run) (brk : BreakRecord) : Option Plan :=
  match s.contour? run.contour with
  | none => none
  | some c =>
    if brk.path.isLoopBreak && decide (s.planner.kerf.getD 0 < s.cfg.kerfLimit) then
      some (kerfPlan run c brk s.cfg.backoff)
    else
      match (s.hole? run.hole).filter (fun h => h.lv.state == .opened) with
      | some hole => some (holePlan run c brk run.hole hole)
      | none =>
        if brk.path.isLoopBreak then
          (alternate run c brk.a s.plate.holes).map (fun e => holePlan run c brk e.1 e.2)
        else none

/-! ### Targets (R121) -/

/-- The next target number (R121). -/
def nextTargetNumber (n : Nat) : Nat := if n = 0 ∨ n = 255 then 1 else n + 1

/-- Posts a target record; the TARGET event is posted apart, so that a clearance and a new target post one (R121). -/
def setTarget (purpose : Purpose) (place : Place) (contour : Nat) (point : Point) (s : State) : State :=
  s.modPlanner (fun p =>
    let n := nextTargetNumber p.counter
    { p with
      counter := n
      target := some ⟨n, purpose, place, contour, point, false⟩
      withdrawn := if p.withdrawn.any (fun w => w.number == n) then none else p.withdrawn })

/-- The TARGET event, with the posted target and the target that last stopped being posted (R121). -/
def postTarget (s : State) : State := post (.target s.planner.target s.planner.lastStopped) s

/-- The posted target stops being posted. -/
def stopTarget (way : Way) (s : State) : State :=
  s.modPlanner (fun p =>
    match p.target with
    | some t => { p with target := none, lastStopped := some (t.number, way) }
    | none => p)

/-- A START target for the run's hole (R121). -/
def startTarget (s : State) : State :=
  match s.run with
  | none => s
  | some run =>
    match s.hole? run.hole with
    | none => s
    | some hole => setTarget .start (.hole run.hole) run.contour hole.centre s

/-- A plan becomes the run's resume plan, with its target (R119, R121). -/
def resumeTarget (plan : Plan) (s : State) : State :=
  match s.run with
  | none => s
  | some run =>
    setTarget .resume plan.place run.contour plan.target { s with run := some { run with plan := some plan } }

/-- The open run is stranded (R120). -/
def strand (occasion : Occasion) (s : State) : State :=
  match s.run with
  | none => s
  | some run =>
    let s1 := setPhase .stranded { s with run := some { run with plan := none } }
    post (.stranded run.number run.contour run.hole occasion) s1

/-- Plans a resume and posts its target, or strands the run (R117 step 7, R128). -/
def planResume (s : State) : State :=
  match s.run with
  | none => s
  | some run =>
    match run.brk.bind (choosePlan s run) with
    | some plan => resumeTarget plan s
    | none => strand .noPlan s

/-! ### Failures (R127, R128) -/

/-- A failed attempt is counted (R127). -/
def countFailure (place : Place) (s : State) : State :=
  match place with
  | .kerf => s.modPlanner (fun p => { p with kerf := some (p.kerf.getD 0 + 1) })
  | .hole h =>
    s.modHoleLive h (fun v =>
      { v with
        fails := v.fails + 1
        state := if v.fails + 1 = s.cfg.holeLimit ∧ v.state ≠ .lost then .blocked else v.state })

/-- The choice after a failed attempt (R128). -/
def replan (purpose : Purpose) (s : State) : State :=
  match s.run with
  | none => s
  | some run =>
    match purpose with
    | .start =>
      if (s.hole? run.hole).any (fun h => h.lv.state == .opened) then startTarget s else strand .startBlocked s
    | .resume => planResume s

/-! ### Resume (R76, R126) -/

/-- The phase entered after a lead-in start at a hole: LEAD_IN when its lead-in is uncut and the kind is not SKIM,
APPROACH otherwise (R63, R76). -/
def phaseAtHole (kind : RunKind) (hole : Option Hole) : Phase :=
  if kind != .skim && hole.any (fun h => !h.lv.leadInCut) then .leadIn else .approach

/-- The phase that a completed attempt enters (R76, R126). -/
def resumePhase (place : Place) (kind : RunKind) (s : State) : Phase :=
  match place with
  | .hole h => phaseAtHole kind (s.hole? h)
  | .kerf => .approach

/-- The wire record of a completed attempt (R126). -/
def threadedWire (place : Place) (contour : Nat) (point : Point) : Wire :=
  match place with
  | .hole h => .hole h
  | .kerf => .kerf contour point

/-- A completed threading takes up the run again (R126 steps 2 to 5, R76). -/
def resumeRun (t : Target) (s : State) : State :=
  match s.run with
  | none => s
  | some run =>
    let c := match t.purpose with
      | .resume => (run.plan.map (·.resume)).getD run.c
      | .start => run.c
    let hole := match t.place with
      | .hole h => h
      | .kerf => run.hole
    let s1 := s.modPlanner (fun p => { p with wire := threadedWire t.place run.contour t.point })
    let s2 := { s1 with run := some { run with hole := hole, c := c } }
    let s3 := match t.place with
      | .hole h => leadInStart h s2
      | .kerf => loopStart ((run.plan.bind (·.backoff)).getD 0) s2
    enterTracking (resumePhase t.place run.kind s) (recomputeLimits s3)

end Sys2Proof.Machine
end

