-- ==== Sys2Proof/Machine/Sample.lean ====
section
/-! DEFINITION. The progress sample (chapter 3, R39 to R58), what the Run Controller does with it (chapter 4), and
its trace record (chapter 11). -/

namespace Sys2Proof.Machine

/-- What a sample hands on (R58). `lossy` is TRACK_LOSS presented, `credit` the old and new frontier. -/
structure SampleResult where
  prog : Progress
  onPath : Bool
  lossy : Bool
  entered : Bool
  credit : Option (Nat × Nat)
  deriving DecidableEq, Repr

/-- An off-path sample and its TRACK_LOSS test (R41, R49). -/
def offPathSample (limit : Nat) (p : Progress) : SampleResult :=
  let count := satInc 255 p.offPath
  ⟨{ p with offPath := count }, false, decide (limit ≤ count), false, none⟩

/-- The frontier step of an on-path loop sample in CUTTING or AT_LIMIT (R54, R55). -/
def frontierStep (dryLimit loopLen : Nat) (presence : Bool) (p : Progress) : SampleResult :=
  if (p.a : Int) < p.r then
    if presence then
      let new := min p.r.toNat loopLen
      if p.a < new then ⟨{ p with a := new, dry := 0 }, true, false, false, some (p.a, new)⟩
      else ⟨{ p with dry := 0 }, true, false, false, none⟩
    else
      let dry := (p.r - p.a).toNat
      ⟨{ p with dry := dry }, true, decide (dryLimit < dry), false, none⟩
  else ⟨{ p with dry := 0 }, true, false, false, none⟩

/-- The phases in which a loop sample moves the frontier or the dry excess (R54). -/
def Phase.credits : Phase → Bool
  | .cutting | .atLimit => true
  | .leadIn | .approach | .awaitThread | .broken | .stranded | .halted => false

/-- The loop position that a sample reaches (R48): the end of the loop counts as 0. -/
def reachedPos (c : Contour) (w : Reached) : Nat :=
  let pos := c.g.segOff.getD w.seg 0 + (legAt c.legs w.seg).clamp w.along
  if pos = c.g.loopLen then 0 else pos

/-- An on-path loop sample moves the loop position and the run distance (R48, R52). -/
def advanceLoop (dir : Dir) (loopLen new : Nat) (p : Progress) : Progress :=
  let delta := normDelta loopLen ((new : Int) - (p.sOld.getD new : Nat))
  { p with
    offPath := 0
    sOld := some new
    r := match dir with
      | .fwd => addDist p.r delta
      | .rev => addDist p.r (-delta) }

/-- A sample on the loop (R43 to R48, R52, R54 to R56). -/
def sampleLoop (cfg : ConfigRecord) (c : Contour) (dir : Dir) (phase : Phase) (kind : RunKind) (presence : Bool)
    (pos : Point) (p : Progress) : SampleResult :=
  let w := walk c.legs true cfg.pathTol pos maxSteps p.seg
  let p1 := { p with seg := w.seg, along := w.along, dev := w.dev }
  if w.capped || decide (cfg.pathTol < w.dev) then offPathSample cfg.offpathLimit p1
  else
    let p2 := advanceLoop dir c.g.loopLen (reachedPos c w) p1
    if phase.credits && kind != .skim then frontierStep cfg.dryLimit c.g.loopLen presence p2
    else ⟨p2, true, false, false, none⟩

/-- A sample on a lead-in (R50, R51). -/
def sampleLeadIn (cfg : ConfigRecord) (hole : Hole) (pos : Point) (p : Progress) : SampleResult :=
  let w := walk hole.legs false cfg.pathTol pos maxSteps p.seg
  let p1 := { p with seg := w.seg, along := w.along, dev := w.dev }
  if w.capped || decide (cfg.pathTol < w.dev) then offPathSample cfg.offpathLimit p1
  else if w.seg + 1 = hole.legs.length ∧ ((legAt hole.legs w.seg).len : Int) ≤ w.along then
    ⟨{ p1 with offPath := 0, lam := hole.g.lin, path := .loop, seg := hole.g.entrySeg, sOld := some hole.g.entry },
      true, false, true, none⟩
  else
    let lam := ((hole.g.segLen.take w.seg).sum) + (legAt hole.legs w.seg).clamp w.along
    ⟨{ p1 with offPath := 0, lam := lam }, true, false, false, none⟩

/-- Steps 2 to 5 of a sample (R40). The position and its availability are those at the completion; R40 fixes the order
of the steps alone (log 16). With no path or no entry to read, nothing is projected (log 17). -/
def samplePath (s : State) (run : Run) (phase : Phase) (kind : RunKind) (presence : Bool) : SampleResult :=
  if !s.available then offPathSample s.cfg.offpathLimit s.prog
  else
    match s.prog.path, s.contour? run.contour with
    | .leadIn h, some _ =>
      match s.hole? h with
      | some hole => sampleLeadIn s.cfg hole s.pos s.prog
      | none => offPathSample s.cfg.offpathLimit s.prog
    | .loop, some c => sampleLoop s.cfg c run.dir phase kind presence s.pos s.prog
    | _, _ => offPathSample s.cfg.offpathLimit s.prog

/-! ### Trace (R165, R166) -/

/-- A record offered to the FIFO (R166). -/
def offerRecord (entry : TraceRecord) (s : State) : State :=
  if s.trace.fifo.length < 64 then
    let s1 := { s with trace := { s.trace with fifo := s.trace.fifo ++ [entry] } }
    let level := s.trace.fifo.length
    if level < s.cfg.traceThreshold ∧ s.cfg.traceThreshold ≤ level + 1 then post (.traceLevel (level + 1)) s1 else s1
  else
    let dropped := satInc 255 s.trace.dropped
    post (.traceOverflow dropped) { s with trace := { s.trace with dropped := dropped } }

/-- Short present, for a trace record (R105). -/
def Gap.shortPresent (g : Gap) : Bool := g.shortSince || g.episode.any (·.qualified)

/-- The record of a sample (Table 11-3). -/
def traceRecordOf (s : State) (run : Run) (phase : Phase) : TraceRecord where
  run := run.number % 256
  phase := phase
  r := clampInt (-32768) 32767 (s.prog.r / ((2 ^ s.cfg.traceShift : Nat) : Int))
  dev := min 65535 (s.prog.dev / 2 ^ s.cfg.traceShift)
  discharges := s.trace.tally
  short := s.gap.shortPresent
  warn := run.warn
  dry := decide (0 < s.prog.dry)

/-- A sample counts toward the decimation and may form a record (R165). -/
def traceSample (phase : Phase) (s : State) : State :=
  match s.run with
  | none => s
  | some run =>
    if s.trace.decimation + 1 = s.cfg.traceDecimation then
      offerRecord (traceRecordOf s run phase) { s with
        trace := { s.trace with decimation := 0, tally := 0 }
        gap := { s.gap with shortSince := false } }
    else { s with trace := { s.trace with decimation := s.trace.decimation + 1 } }

/-! ### The Run Controller's tests (R64 to R70) -/

/-- The left-hole flag at a sample (R64). -/
def leaveHole (before : Path) (res : SampleResult) (s : State) : State :=
  let away := res.onPath && (match before with
    | .loop => true
    | .leadIn _ => decide (0 < res.prog.lam)
    | .none => false)
  s.modRun (fun run => { run with leftHole := run.leftHole || away })

/-- The lead-in is cut at a loop entry in LEAD_IN (R51). -/
def markLeadIn (before : Path) (phase : Phase) (entered : Bool) (s : State) : State :=
  match before with
  | .leadIn h => if entered && phase == .leadIn then s.modHoleLive h (fun v => { v with leadInCut := true }) else s
  | .loop | .none => s

/-- r has reached the cut-from distance less resume_tol (R65, R66). -/
def approachDone (s : State) (run : Run) : Bool := decide ((run.c : Int) - s.cfg.resumeTol ≤ s.prog.r)

/-- The phase tests of a sample: loop entry (R65), end of approach (R66), warn and stop point (R67, R70). -/
def phaseTests (phase : Phase) (before : Path) (res : SampleResult) (s : State) : State :=
  match s.run with
  | none => s
  | some run =>
    if res.entered then
      if approachDone s run then enterCutting s
      else if phase = .leadIn then enterTracking .approach s
      else s
    else
      match phase with
      | .approach => if res.onPath && before == .loop && approachDone s run then enterCutting s else s
      | .cutting =>
        let s1 := evaluateWarn s
        if stopReached run s.prog then enterTracking .atLimit (postAtLimit s1) else s1
      | .leadIn | .atLimit | .awaitThread | .broken | .stranded | .halted => s

/-- The credit of a sample goes to the Coverage Unit (R54, R84). -/
def creditSample (credit : Option (Nat × Nat)) (s : State) : State :=
  match credit, s.run with
  | some (a1, a2), some run => mergeCredit run a1 a2 s
  | _, _ => s

/-- The run keeps the remaining distance as it stands after a completed sample, for WARN_CLEAR (R72). -/
def keepRemaining (s : State) : State :=
  s.modRun (fun run => { run with sampledRem := some (remaining run s.prog) })

/-- A sample completes: Progress Unit, Coverage Unit, Run Controller, Trace Buffer (R40, R58, R165). The phase
tests come before the TRACK_LOSS that the sample presents (log 15). -/
def completeSample (phase : Phase) (kind : RunKind) (presence : Bool) (s : State) : State :=
  match s.run with
  | none => s
  | some run =>
    let before := s.prog.path
    let res := samplePath s run phase kind presence
    let s1 := leaveHole before res { s with prog := res.prog }
    let s2 := creditSample res.credit (markLeadIn before phase res.entered s1)
    let s3 := phaseTests phase before res s2
    let s4 := if res.lossy then arise { Causes.none with trackLoss := true } s3 else s3
    keepRemaining (traceSample phase s4)

/-- The expiry of the sample timer in one of the four tracking phases: step 1 of R40. -/
def takePresence (s : State) : State := { s with gap := { s.gap with presence := false } }

end Sys2Proof.Machine
end

