-- ==== Sys2Proof/Machine/Layout.lean ====
section
/-! DEFINITION. Event details and reply bodies (10.7, R160): the bytes the 5120 sends. -/

namespace Sys2Proof.Machine

/-! ### Shared fields -/

/-- A run number, 0 where there is none (R160). -/
def runField (n : Option Nat) : List Byte := natField 2 (n.getD 0)

/-- A signed field that may be absent. -/
def optInt (w : Nat) : Option Int → List Byte
  | some x => intField w x
  | none => absentField w

/-- A point that may be absent. -/
def optPoint : Option Point → List Byte
  | some p => pointField p
  | none => absentField 6

/-- A wire record in eight bytes (R160). -/
def wireField : Wire → List Byte
  | .unknown => [0, 0xFF] ++ List.replicate 6 0
  | .none => [1, 0xFF] ++ List.replicate 6 0
  | .hole h => 2 :: natField 1 h ++ List.replicate 6 0
  | .kerf c p => 3 :: natField 1 c ++ pointField p

/-- A target record in twelve bytes (Table 10-9). -/
def targetField : Option Target → List Byte
  | none => List.replicate 12 0
  | some t =>
    natField 1 t.number ++ [t.purpose.code, t.place.code] ++ natField 1 t.contour ++ [t.place.holeByte] ++
      pointField t.point ++ flagField t.begun

/-- An error entry of a validation in six bytes (R160). -/
def mapErrorField (e : MapError) : List Byte :=
  e.code.code :: (optNat 1 e.contour ++ optNat 1 e.hole ++ optNat 2 e.item ++ optNat 1 e.item2)

/-- An entry of a link's error record in four bytes (R152); the mark has bit 0 for KIND, bit 1 for TAG (log 25). -/
def errorEntryField (e : ErrorEntry) : List Byte :=
  [e.code.code, (if e.kind.isSome then 1 else 0) + (if e.tag.isSome then 2 else 0), e.kind.getD 0xFF,
    e.tag.getD 0xFF]

/-- A break record with its presence byte, 17 bytes (Table 10-14). -/
def breakField (b : Option BreakRecord) : List Byte :=
  groupField 16 (fun r => [r.phase.code, r.path.code] ++ pointField r.pos ++ intField 4 r.r ++ natField 4 r.a) b

/-- A resume plan with its presence byte, 24 bytes (Table 10-14). -/
def planField (p : Option Plan) : List Byte :=
  groupField 23 (fun q => [q.place.code, q.place.holeByte] ++ optNat 4 q.backoff ++ pointField q.target ++
    natField 4 q.resume ++ pointField q.resumePoint ++ flagField q.cutsLeadIn) p

/-- A trace record in eight bytes (Table 11-3). -/
def traceField (t : TraceRecord) : List Byte :=
  natField 1 t.run ++ [t.phase.code] ++ intField 2 t.r ++ natField 2 t.dev ++ natField 1 t.discharges ++
    [(if t.short then 1 else 0) + (if t.warn then 2 else 0) + (if t.dry then 4 else 0)]

/-- An event set or mask in two bytes. -/
def setField (set : EventSet) : List Byte := leBytes 2 set.toNat

/-! ### Event details (Table 10-2) -/

/-- The detail of BREAK. A field that R116 does not name for a case is sent absent; the path byte is then 0xFE, the code
of no path, and not the all ones of R160, which is the code of the loop (the model's choice, log 20). -/
def breakDetailField (d : BreakDetail) : List Byte :=
  runField d.run ++ [optPhase d.phase, (d.path.map Path.code).getD 0xFE] ++ pointField d.pos ++ optInt 4 d.r ++
    optNat 4 d.a ++ optNat 1 d.breaks ++ (d.wire.map wireField).getD (absentField 8)

/-- The detail of an event, in the fields and size of Table 10-2. -/
def Event.detail : Event → List Byte
  | .runPhase run phase => natField 2 run ++ [phase.code]
  | .warn run rem => natField 2 run ++ intField 4 rem
  | .atLimit run stop value => natField 2 run ++ intField 4 stop ++ intField 4 value
  | .brk d => breakDetailField d
  | .target posted last =>
    targetField posted ++ natField 1 ((last.map (·.1)).getD 0) ++ [((last.map (·.2.code)).getD 0xFF)]
  | .stranded run contour hole occasion => natField 2 run ++ natField 1 contour ++ natField 1 hole ++ [occasion.code]
  | .halt run causes back => natField 2 run ++ [causes.code, back.code]
  | .contourState changed => listField (fun e => natField 1 e.1 ++ [e.2.code]) changed
  | .catchNeeded run contour held => natField 2 run ++ natField 1 contour ++ natField 4 held
  | .encoder x y cause channel => [x.code, y.code, cause.code, channel.code]
  | .violation stray run device =>
    natField 2 stray ++ runField (run.map (·.1)) ++ [optPhase (run.map (·.2)), device.code]
  | .inhibit hold spark thread =>
    [(if hold then 1 else 0) + (if spark then 2 else 0) + (if thread then 4 else 0)]
  | .plateState state ident => state.code :: groupField 4 (natField 4) ident
  | .traceLevel level => natField 1 level
  | .traceOverflow dropped => natField 1 dropped

/-! ### Replies on every link -/

/-- ATTENTION_READ (R155). -/
def attentionBody (l : LinkState) : List Byte :=
  Status.ok.code :: (setField (rawBits l.raw) ++ setField l.masked ++ l.raw.flatMap (fun e => e.2.detail))

/-- LINK_ERRORS (R152). -/
def linkErrorsBody (l : LinkState) : List Byte := Status.ok.code :: listField errorEntryField l.errors

/-- DEVICE_STATUS (R159); number and phase of the open run as two fields, no group (log 30). -/
def deviceStatusBody (s : State) : List Byte :=
  [Status.ok.code, s.device.code, s.selfTest.code, s.plate.state.code] ++ runField (s.run.map (·.number)) ++
    [optPhase (s.run.map (·.phase))] ++ wireField s.planner.wire ++ flagField s.holdIn ++ flagField s.sparkOk ++
    flagField s.threadOk ++ flagField s.gap.violation ++ flagField s.suspect ++ flagField s.available ++
    listField (natField 1) s.catchSet

/-! ### Motion Link replies -/

/-- RUN_OPEN (R63). -/
def runOpenBody (run : Run) : List Byte :=
  Status.ok.code :: (natField 2 run.number ++ [run.phase.code] ++ natField 4 run.c ++ natField 4 run.limit ++
    intField 4 run.stop ++ flagField run.final ++ flagField run.holdback)

/-- The run record's flags as bits (Table 10-14). -/
def Run.flags (run : Run) : Byte :=
  (if run.final then 1 else 0) + (if run.holdback then 2 else 0) + (if run.leftHole then 4 else 0) +
    (if run.warn then 8 else 0)

/-- The part of RUN_READ's reply that both selectors share, 93 bytes (Table 10-14). -/
def runRecordBody (selector : Byte) (run : Run) (phase : Phase) (r : Int) (a lam dev : Nat) : List Byte :=
  [Status.ok.code, selector] ++ natField 2 run.number ++ natField 1 run.contour ++ natField 1 run.hole ++
    natField 4 run.e0 ++ [run.kind.code, run.dir.code] ++ natField 1 run.expected ++ [phase.code] ++
    natField 4 run.c ++ natField 4 run.limit ++ intField 4 run.stop ++ [run.flags] ++ intField 4 r ++
    natField 4 a ++ natField 4 lam ++ natField 4 dev ++
    [(run.halt.map (fun h => h.causes.code)).getD 0, optPhase (run.halt.map (·.back))] ++
    breakField run.brk ++ planField run.plan ++
    natField 1 run.breaks ++ natField 4 run.discharges ++ natField 2 run.shorts

/-- RUN_READ of the open run (R79). -/
def runReadOpenBody (run : Run) (p : Progress) : List Byte :=
  runRecordBody 0 run run.phase p.r p.a p.lam p.dev ++
    [p.path.code] ++ natField 2 p.seg ++ natField 1 p.offPath ++ natField 4 p.dry ++ intField 4 (remaining run p)

/-- RUN_READ of the last-run record (R79). -/
def runReadLastBody (l : LastRun) : List Byte := runRecordBody 1 l.run l.phaseAtClose l.r l.a l.lam l.dev

/-- PLAN_READ (R80, R119), its break record and plan in the forms of Table 10-14 (log 43). -/
def planReadBody (run : Run) (p : Planner) : List Byte :=
  Status.ok.code :: (natField 2 run.number ++ [run.phase.code] ++ breakField run.brk ++ planField run.plan ++
    targetField p.target ++ optNat 1 p.kerf)

/-- One channel in POSITION_READ (R36). -/
def channelField (c : Channel) : List Byte :=
  intField 4 c.count.toInt ++ intField 4 c.zero.toInt ++ intField 3 c.coord ++ flagField c.outOfEnvelope ++
    flagField c.fault ++ flagField c.skip ++ flagField c.zeroMark ++ flagField c.suspect ++ flagField c.index.isSome

/-- POSITION_READ (R36). -/
def positionBody (s : State) : List Byte :=
  Status.ok.code :: (channelField s.axisX ++ channelField s.axisY ++ flagField s.available ++ flagField s.suspect)

/-- One channel in ZERO_SET's reply (R35). -/
def zeroSetField (c : Channel) : List Byte :=
  intField 4 c.count.toInt ++ intField 3 c.coord ++ flagField c.outOfEnvelope

/-- ZERO_SET (R35). -/
def zeroSetBody (s : State) : List Byte := Status.ok.code :: (zeroSetField s.axisX ++ zeroSetField s.axisY)

/-- The settle window's remaining time in ms; the rounding is left open (log 11). -/
def settleMs (left : Nat) : Nat :=
  if left % Config.refsPerMs = 0 then left / Config.refsPerMs
  else left / Config.refsPerMs + (if Config.msRoundsUp left then 1 else 0)

/-- GAP_READ (R112). -/
def gapBody (s : State) : List Byte :=
  [Status.ok.code, identByte s.gap.ident] ++ optNat 2 s.gap.lastMean ++
    groupField 9 (fun w => natField 2 w.n ++ natField 2 w.m ++ natField 4 w.sum ++ flagField w.eligible)
      s.gap.lastWindow ++
    natField 1 s.gap.mismatch ++ optNat 1 (s.run.map (·.expected)) ++ flagField s.gap.presence ++
    natField 4 s.gap.pulseTotal ++ flagField s.shortIn ++
    groupField 6 (fun e => natField 4 e.elapsed ++ flagField e.qualified ++ flagField e.pinched) s.gap.episode ++
    natField 2 s.gap.stray ++ flagField s.gap.violation ++ flagField s.gap.settle.isSome ++
    optNat 1 (s.gap.settle.map settleMs)

/-! ### Thread Link replies -/

/-- THREAD_BEGIN's fields, whatever the status (R124). With no target posted ("or none") the number is 0 and the point
is all ones, two absent fields and no group with a presence byte (log 42). -/
def threadBeginFields (s : State) : List Byte :=
  natField 1 ((s.planner.target.map (·.number)).getD 0) ++ optPoint (s.planner.target.map (·.point)) ++
    pointField s.pos

/-- THREAD_DONE OK (R126): the phase entered, which a standing condition may halt at once (R73). -/
def threadDoneOkBody (entered : Phase) (run : Run) : List Byte :=
  Status.ok.code :: (natField 2 run.number ++ [entered.code] ++ natField 4 run.c ++ natField 4 run.limit ++
    intField 4 run.stop)

/-- THREAD_DONE FAIL (R128). -/
def threadDoneFailBody (run : Run) (target : Option Target) : List Byte :=
  Status.ok.code :: (natField 2 run.number ++ [run.phase.code] ++ natField 1 ((target.map (·.number)).getD 0))

/-- TARGET_READ (R123). -/
def targetReadBody (p : Planner) : List Byte := Status.ok.code :: (targetField p.target ++ wireField p.wire)

/-! ### Cell Link replies -/

/-- The number of defined holes that name a contour as owner. -/
def Plate.ownedCount (p : Plate) (c : Nat) : Nat := (p.holesOf c).length

/-- CONTOUR_LOAD (R4). -/
def contourLoadBody (p : Plate) (idx : Nat) : List Byte :=
  Status.ok.code :: (natField 2 p.free ++ natField 1 (p.ownedCount idx))

/-- VERTEX_APPEND's fields, whatever the status (R6); no contour, no vertex count. -/
def vertexAppendFields (p : Plate) (idx : Option Nat) : List Byte :=
  optNat 2 ((idx.bind (Table.get? p.contours)).map (fun c => c.vertices.length)) ++ natField 2 p.free

/-- HOLE_LOAD's fields, whatever the status (R8). -/
def holeLoadFields (p : Plate) (owner : Option Nat) : List Byte :=
  natField 2 p.free ++ optNat 1 (owner.map p.ownedCount)

/-- The error list as PLATE_STATUS and a failed PLATE_ARM carry it: the number, "more", the entries (R12, R22). -/
def errorListField (p : Plate) : List Byte :=
  natField 1 p.errors.length ++ flagField p.more ++ p.errors.flatMap mapErrorField

/-- PLATE_STATUS (R22). -/
def plateStatusBody (p : Plate) : List Byte :=
  [Status.ok.code, p.state.code] ++ optNat 4 p.ident ++ natField 1 p.contours.length ++ natField 1 p.holes.length ++
    natField 2 p.free ++ errorListField p

/-- VERTEX_READ (R23). -/
def vertexReadBody (p : Plate) (c : Contour) (first count : Nat) : List Byte :=
  let asked := if p.state.live then min 16 count else count
  let points := (c.vertices.drop first).take asked
  let spans := ((c.g.segLen.zip c.g.segOff).drop first).take asked
  Status.ok.code :: (natField 2 c.vertices.length ++ listField pointField points ++
    (if p.state.live then
      listField (fun e => natField 4 e.1 ++ natField 4 e.2) spans ++ natField 4 c.g.loopLen
    else []))

/-- A tab end as loaded. -/
def tabField (t : DeclTab) : List Byte :=
  natField 2 t.start.seg ++ natField 4 t.start.off ++ natField 2 t.stop.seg ++ natField 4 t.stop.off

/-- An interval. -/
def spanField (p : Span) : List Byte := natField 4 p.lo ++ natField 4 p.hi

/-- A stretch, as first cell and length. -/
def stretchField (t : Stretch) : List Byte := natField 4 t.first ++ natField 4 t.len

/-- CONTOUR_READ (R141); the implied tab as a group, the open run as a flag and its number (log 43). -/
def contourReadBody (s : State) (idx : Nat) (c : Contour) : List Byte :=
  let head := [Status.ok.code, c.cls.code] ++ natField 2 c.width ++ natField 2 c.vertices.length
  if s.plate.state.live then
    let ans := c.answers s.cfg.permitLead
    head ++ natField 4 c.g.loopLen ++ [c.lv.state.code] ++ flagField c.lv.tilt ++ flagField (s.catchArmed idx) ++
      flagField c.lv.removed ++ flagField c.lv.voided ++ listField spanField c.lv.coverage ++
      listField stretchField (uncovered c.g.loopLen c.lv.coverage) ++ listField spanField c.g.tabs ++
      groupField 8 stretchField c.lv.implied ++ flagField ans.allRemnants ++ optNat 4 ans.shortest ++
      natField 4 c.lv.discharges ++ listField (natField 1) (s.plate.holesOf idx) ++
      flagField (s.runOn idx) ++ runField (if s.runOn idx then s.run.map (·.number) else none)
  else head ++ listField tabField c.tabs

/-- HOLE_READ (R142); the segment lengths as a list of their own (log 43). -/
def holeReadBody (s : State) (idx : Nat) (h : Hole) : List Byte :=
  let head := Status.ok.code :: (natField 1 h.owner ++ [h.loc.code, h.dirs.code] ++ pointField h.centre ++
    listField pointField h.leadIn)
  if s.plate.state.live then
    head ++ listField (natField 4) h.g.segLen ++ natField 4 h.g.lin ++ natField 2 h.g.entrySeg ++
      natField 4 h.g.entry ++ [h.lv.state.code] ++ natField 1 h.lv.fails ++ flagField h.lv.leadInCut ++
      flagField (s.run.any (fun r => r.hole == idx)) ++
      flagField (s.planner.target.any (fun t => t.place == .hole idx))
  else head

/-- CATCH_ARM and CATCH_DISARM: the contour's state and the size of the catch set (R136, R137). -/
def catchBody (s : State) (idx : Nat) : List Byte :=
  [Status.ok.code] ++ [((s.contour? idx).map (fun c => c.lv.state.code)).getD 0xFF] ++ natField 1 s.catchSet.length

/-- What CATCH_ARM adds when the open run's limits were computed again (R136). R136 says "L, p and flags": the model
sends the final flag and then the holdback flag, one byte each, as RUN_OPEN's reply does (R63, log 31). -/
def runLimitsField (run : Run) : List Byte :=
  natField 4 run.limit ++ intField 4 run.stop ++ flagField run.final ++ flagField run.holdback

/-- TRACE_READ: the number, the records, the dropped count, the level after (R167). -/
def traceReadBody (t : Trace) : List Byte :=
  let out := t.fifo.take 12
  Status.ok.code :: (natField 1 out.length ++ out.flatMap traceField ++ natField 1 t.dropped ++
    natField 1 (t.fifo.drop 12).length)

end Sys2Proof.Machine
end

