-- ==== Sys2Proof/Machine/Links.lean ====
section
/-! DEFINITION. Taking a good frame and answering it (R150, R151, R169): one shared operation for every request. -/

namespace Sys2Proof.Machine

/-- What a command answers. -/
abbrev Out := Host.Outcome State Fault Refusal

/-- What a block answers to a request: the state after it, and the reply body, or none while the reply is held
(PLATE_ARM, R10). -/
abbrev Answer := State × Option (List Byte)

/-- Ref counts until the last byte of a reply of so many bytes has been sent, at the latest (R151). -/
def replyTime (bytes : Nat) : Nat := Config.replyDelay + Config.refsPerByte * bytes

/-- The frame becomes the link's request in progress, with its reply frame (R150, R151). -/
def answerWith (l : Link) (replyKind kind tag : Byte) (body : List Byte) (s : State) : State :=
  let frame := frameOf replyKind tag body
  s.modLink l (fun k => { k with busy := some ⟨kind, tag, some frame, replyTime frame.length⟩ })

/-- The frame becomes the link's request in progress, and its reply is held (R10). -/
def holdReply (l : Link) (kind tag : Byte) (s : State) : State :=
  s.modLink l (fun k => { k with busy := some ⟨kind, tag, none, 0⟩ })

/-- The KIND of a reply: the request's KIND plus 0x80 (R151). -/
def replyKind (kind : Byte) : Byte := kind + 0x80

/-- The request in progress with a block's answer. -/
def finish (l : Link) (kind tag : Byte) (a : Answer) : State :=
  match a.2 with
  | some body => answerWith l (replyKind kind) kind tag body a.1
  | none => holdReply l kind tag a.1

/-- The fields that five replies carry whatever the status (R160). -/
def alwaysFields (k : Req) (s : State) (body : List Byte) : List Byte :=
  match k with
  | .vertexAppend => vertexAppendFields s.plate (body[0]?.map (·.toNat))
  | .holeLoad => holeLoadFields s.plate (body[1]?.map (·.toNat))
  | .threadBegin => threadBeginFields s
  | .wireCut => wireField s.planner.wire
  | .configWrite => configFields s.cfg
  | _ => []

/-- A refusal body: the status, and the fields that are carried whatever the status (R160). -/
def refusalBody (k : Req) (s : State) (body : List Byte) (st : Status) : List Byte :=
  st.code :: alwaysFields k s body

/-- The status that a request other than DEVICE_STATUS meets before any block sees it (R169). -/
def deviceBar (k : Req) (d : DeviceState) : Option Status :=
  match d with
  | .ready => none
  | .starting => if k = .deviceStatus then none else some .starting
  | .failed => if k = .deviceStatus then none else some .fault

/-- The block's answer to a request whose frame has been taken: KIND, RANGE, STARTING or FAULT, else the block's own
(R150, R169). A reply of KIND carries the status alone (the model's choice, log 28). -/
def answerOf {β : Type} (l : Link) (k : Req) (body : List Byte) (parsed : Option β) (act : β → State → Answer)
    (s : State) : Answer :=
  if !k.servedOn l then (s, some [Status.kind.code])
  else
    match parsed with
    | none => (s, some (refusalBody k s body .range))
    | some b =>
      match deviceBar k s.device with
      | some st => (s, some (refusalBody k s body st))
      | none => act b s

/-- A good frame arrives: no effect while nothing is received, OVERRUN while a request is in progress, else the
frame is taken and answered (R150). -/
def serve {β : Type} (l : Link) (k : Req) (tag : Byte) (body : List Byte) (parsed : Option β)
    (act : β → State → Answer) (s : State) : State :=
  if !s.receives l then s
  else if (s.link l).busy.isSome then recordError l .overrun (some k.code) (some tag) s
  else finish l k.code tag (answerOf l k body parsed act s)

/-! ### Answers of blocks -/

/-- A refusal that carries the status alone and changes nothing. -/
def refuse (st : Status) (s : State) : Answer := (s, some [st.code])

/-- A reply that changes nothing. -/
def reading (body : List Byte) (s : State) : Answer := (s, some body)

/-- A request that has changed something: outputs follow their conditions, then the reply body is read. -/
def accepted (s : State) (body : State → List Byte) : Answer := (drive s, some (body (drive s)))

/-- A body read from the open run. -/
def ofRun (s : State) (f : Run → List Byte) : List Byte := (s.run.map f).getD [Status.ok.code]

end Sys2Proof.Machine
end

