-- ==== Sys2Proof/Machine/LinkCommands.lean ====
section
/-! DEFINITION. Requests served on all three links, and the events of frames and links (chapter 10). -/

namespace Sys2Proof.Machine

/-! ### Requests on all three links -/

/-- ATTENTION_READ (R155): what is masked in is reported and cleared; what is masked off stays. -/
def attentionRead (l : Link) (_ : Unit) (s : State) : Answer :=
  accepted (s.modLink l (fun k => k.cleared k.masked)) (fun _ => attentionBody (s.link l))

/-- EVENT_MASK (R156). -/
def eventMask (l : Link) (set : EventSet) (s : State) : Answer :=
  accepted (s.modLink l (fun k => { k with mask := set &&& routed l }))
    (fun t => Status.ok.code :: setField (t.link l).mask)

/-- EVENT_CLEAR (R157). -/
def eventClear (l : Link) (set : EventSet) (s : State) : Answer :=
  accepted (s.modLink l (fun k => k.cleared set)) (fun t => Status.ok.code :: setField (rawBits (t.link l).raw))

/-- LINK_ERRORS (R152): the record is reported and emptied. -/
def linkErrors (l : Link) (_ : Unit) (s : State) : Answer :=
  (s.modLink l (fun k => { k with errors := [] }), some (linkErrorsBody (s.link l)))

/-- DEVICE_STATUS (R159), answered in every device state. -/
def deviceStatus (_ : Unit) (s : State) : Answer := reading (deviceStatusBody s) s

def execAttentionRead (l : Link) (tag : Byte) (body : List Byte) (s : State) : Out :=
  .next (serve l .attentionRead tag body (parseNone body) (attentionRead l) s)

def execEventMask (l : Link) (tag : Byte) (body : List Byte) (s : State) : Out :=
  .next (serve l .eventMask tag body (parseSet body) (eventMask l) s)

def execEventClear (l : Link) (tag : Byte) (body : List Byte) (s : State) : Out :=
  .next (serve l .eventClear tag body (parseSet body) (eventClear l) s)

def execLinkErrors (l : Link) (tag : Byte) (body : List Byte) (s : State) : Out :=
  .next (serve l .linkErrors tag body (parseNone body) (linkErrors l) s)

def execDeviceStatus (l : Link) (tag : Byte) (body : List Byte) (s : State) : Out :=
  .next (serve l .deviceStatus tag body (parseNone body) deviceStatus s)

/-! ### Frames -/

/-- The receiver hunts again after a frame has ended or has been discarded (R149). -/
def toHunt (l : Link) (s : State) : State := s.modLink l (fun k => { k with rx := .hunt, part := [], gapTime := 0 })

/-- A frame is discarded: its error is recorded, and the receiver hunts (R149, R152). -/
def discardFrame (l : Link) (code : LinkErr) (kind tag : Option Byte) (s : State) : State :=
  if s.receives l then toHunt l (recordError l code kind tag s) else s

/-- The KIND of the reply to an unknown KIND. Above 0x7F, "the request's KIND plus 0x80" does not fit the byte:
a free value (log 7). -/
def unknownReplyKind (kind : Byte) (s : State) : Byte × State :=
  if kind.toNat < 128 then (replyKind kind, s)
  else (Config.replyKindByte (takeFree s).1, (takeFree s).2)

/-- UNKNOWN_KIND (R150, case 1): the reply is KIND, in every device state (R169). It carries the status alone, also for
the KIND of a request whose reply elsewhere carries fields whatever the status (R160; the model's choice, log 28). -/
def unknownKind (l : Link) (kind tag : Byte) (s : State) : State :=
  if !s.receives l || (Req.ofKind l kind).isSome then s
  else if (s.link l).busy.isSome then recordError l .overrun (some kind) (some tag) s
  else
    let r := unknownReplyKind kind s
    answerWith l r.1 kind tag [Status.kind.code] r.2

def execUnknownKind (l : Link) (kind tag : Byte) (s : State) : Out := .next (unknownKind l kind tag s)

/-- FRAME_CHECK_ERROR (R149, R152). -/
def execFrameCheckError (l : Link) (kind tag : Byte) (s : State) : Out :=
  .next (discardFrame l .check (some kind) (some tag) s)

/-- FRAME_LENGTH_ERROR (R149); KIND and TAG absent (R152). -/
def execFrameLengthError (l : Link) (s : State) : Out := .next (discardFrame l .length none none s)

/-- FRAME_GAP_TIMEOUT (R149, R152): TAG follows KIND, so it has not arrived without KIND. -/
def execFrameGapTimeout (l : Link) (kind tag : Option Byte) (s : State) : Out :=
  .next (discardFrame l .gap kind (kind.bind (fun _ => tag)) s)

/-- FRAME_OVERRUN (R150): only while a request is in progress (log 32). -/
def execFrameOverrun (l : Link) (kind tag : Byte) (s : State) : Out :=
  .next (if (s.link l).busy.isSome then discardFrame l .overrun (some kind) (some tag) s else s)

/-- A request in progress has a reply to send. -/
def InProgress.replying (b : InProgress) : Bool := b.reply.isSome

/-- REPLY_SENT (R150): the last byte of the reply has gone, and the link takes the next good frame. -/
def execReplySent (l : Link) (s : State) : Out :=
  .next (if !s.resetLow && (s.link l).busy.any InProgress.replying then
    s.modLink l (fun k => { k with busy := none }) else s)

/-- What a link reset does to the interface (R158). -/
def LinkState.afterReset (k : LinkState) (l : Link) : LinkState :=
  { k with rx := .brk, part := [], gapTime := 0, busy := none, errors := [], mask := routed l }

/-- LINK_RESET (R158). -/
def execLinkReset (l : Link) (s : State) : Out :=
  .next (if s.resetLow then s else driveAttn (s.modLink l (fun k => k.afterReset l)))

/-- LINK_BREAK_END (R148, R158). -/
def execLinkBreakEnd (l : Link) (s : State) : Out :=
  .next (if (s.link l).rx = .brk then s.modLink l (fun k => { k with rx := .hunt }) else s)

end Sys2Proof.Machine
end

