-- ==== Sys2Proof/Machine/AxisCommands.lean ====
section
/-! DEFINITION. The Axis Decoder's requests and events (chapter 2). -/

namespace Sys2Proof.Machine

/-! ### Requests -/

/-- POSITION_READ (R36). -/
def positionRead (_ : Unit) (s : State) : Answer := reading (positionBody s) s

def execPositionRead (tag : Byte) (body : List Byte) (s : State) : Out :=
  .next (serve .motion .positionRead tag body (parseNone body) positionRead s)

/-- What an accepted ZERO_SET does to a channel (R35). -/
def Channel.zeroed (c : Channel) (zero : BitVec 32) : Channel :=
  { c with zero := zero, skip := false, zeroMark := false, suspect := false, index := none }

/-- The ENCODER event, with a snapshot of the latches (R34). -/
def postEncoder (cause : EncCause) (channel : EncChannel) (s : State) : State :=
  post (.encoder s.axisX.latches s.axisY.latches cause channel) s

/-- The effects of an accepted ZERO_SET (R35). -/
def zeroAxes (q : ZeroSetReq) (s : State) : State :=
  postEncoder .zeroSet .both { s with axisX := s.axisX.zeroed q.x, axisY := s.axisY.zeroed q.y }

/-- ZERO_SET (R35). -/
def zeroSet (q : ZeroSetReq) (s : State) : Answer :=
  if s.run.isSome then refuse .busy s
  else if s.lineFault then refuse .fault s
  else accepted (zeroAxes q s) zeroSetBody

def execZeroSet (tag : Byte) (body : List Byte) (s : State) : Out :=
  .next (serve .motion .zeroSet tag body (parseZeroSet body) zeroSet s)

/-! ### Events -/

/-- A change of the lines: ENCODER is posted, and the halt cause arises where the condition begins (R33, R34). -/
def encoderEvent (cause : EncCause) (axis : Axis) (stood : Bool) (s : State) : State :=
  let s1 := postEncoder cause (encChannel axis) s
  drive (if !stood && s1.encoderCond then arise { Causes.none with encoder := true } s1 else s1)

/-- The levels a forward step leads to (Table 2-2). -/
def forwardOf : Bool × Bool → Bool × Bool
  | (false, false) => (true, false)
  | (true, false) => (true, true)
  | (true, true) => (false, true)
  | (false, true) => (false, false)

/-- The levels a reverse step leads to (Table 2-2). -/
def reverseOf : Bool × Bool → Bool × Bool
  | (false, false) => (false, true)
  | (false, true) => (true, true)
  | (true, true) => (true, false)
  | (true, false) => (false, false)

/-- What an observation is, against the reference (R25). -/
inductive Observed where
  | first
  | same
  | forward
  | reverse
  | illegal
  deriving DecidableEq, Repr

/-- R25's comparison. -/
def observe (reference : Option (Bool × Bool)) (levels : Bool × Bool) : Observed :=
  match reference with
  | none => .first
  | some r =>
    if levels = r then .same
    else if levels = forwardOf r then .forward
    else if levels = reverseOf r then .reverse
    else .illegal

/-- The channel after an observation (R25, R26). -/
def Channel.observed (c : Channel) (levels : Bool × Bool) : Channel :=
  match observe c.quad levels with
  | .first => { c with quad := some levels }
  | .same => c
  | .forward => { c with quad := some levels, count := c.count + 1 }
  | .reverse => { c with quad := some levels, count := c.count - 1 }
  | .illegal => { c with quad := some levels, skip := true, suspect := true }

/-- A pair's level: as received, or its last valid level while invalid (R27); with no valid level observed since the
reset, that level is left open: a free value (log 8). -/
def pairLevel (received last : Option Bool) (s : State) : Bool × State :=
  match received, last with
  | some v, _ => (v, s)
  | none, some v => (v, s)
  | none, none => (Config.pairLevel (takeFree s).1, (takeFree s).2)

/-- The channel with the levels that its A and B pairs were observed at; an invalid pair keeps its last valid level
(R27). -/
def Channel.seen (c : Channel) (a b : Option Bool) : Channel :=
  { c with lastA := a <|> c.lastA, lastB := b <|> c.lastB }

/-- QUADRATURE_STEP (R25 to R27). While a line fault is present the pairs are observed but not decoded (R27, R28). -/
def quadratureStep (axis : Axis) (a b : Option Bool) (s : State) : State :=
  let c := s.axis axis
  if s.resetLow then s
  else if c.fault then s.setAxis axis (c.seen a b)
  else
    let pa := pairLevel a c.lastA s
    let pb := pairLevel b c.lastB pa.2
    let s1 := pb.2.setAxis axis ((c.seen (some pa.1) (some pb.1)).observed (pa.1, pb.1))
    if observe c.quad (pa.1, pb.1) = .illegal then encoderEvent .skip axis s.encoderCond s1 else s1

def execQuadratureStep (axis : Axis) (a b : Option Bool) (s : State) : Out := .next (quadratureStep axis a b s)

/-- LINE_FAULT_BEGIN (R27): no second fault begins while one is present. -/
def lineFaultBegin (axis : Axis) (s : State) : State :=
  let c := s.axis axis
  if s.resetLow || c.fault then s
  else encoderEvent .faultBegin axis s.encoderCond (s.setAxis axis { c with fault := true, suspect := true })

def execLineFaultBegin (axis : Axis) (s : State) : Out := .next (lineFaultBegin axis s)

/-- LINE_FAULT_END (R28). -/
def lineFaultEnd (axis : Axis) (s : State) : State :=
  let c := s.axis axis
  if s.resetLow || !c.fault then s
  else encoderEvent .faultEnd axis s.encoderCond (s.setAxis axis { c with fault := false, quad := none, index := none })

def execLineFaultEnd (axis : Axis) (s : State) : Out := .next (lineFaultEnd axis s)

/-- An index pulse agrees with the reference (R29). -/
def indexAgrees (count reference : BitVec 32) (pitch tol : Nat) : Bool :=
  let d := (count - reference).toInt.natAbs
  decide (d ≤ tol) || decide (((d : Int) - pitch).natAbs ≤ tol)

/-- INDEX_PULSE (R29). -/
def indexPulse (axis : Axis) (s : State) : State :=
  let c := s.axis axis
  let pitch := s.cfg.indexPitch axis
  if s.resetLow || c.fault || pitch == 0 then s
  else
    match c.index with
    | none => s.setAxis axis { c with index := some c.count }
    | some reference =>
      if indexAgrees c.count reference pitch s.cfg.indexTol then s.setAxis axis { c with index := some c.count }
      else encoderEvent .index axis s.encoderCond
        (s.setAxis axis { c with index := some c.count, zeroMark := true, suspect := true })

def execIndexPulse (axis : Axis) (s : State) : Out := .next (indexPulse axis s)

end Sys2Proof.Machine
end

