-- ==== Sys2Proof/Machine/GapCommands.lean ====
section
/-! DEFINITION. The Gap Monitor's requests and events (chapter 6). -/

namespace Sys2Proof.Machine

/-! ### Requests -/

/-- GAP_READ (R112). -/
def gapRead (_ : Unit) (s : State) : Answer := reading (gapBody s) s

/-- GAP_READ is served on the Motion Link and the Cell Link (R112). -/
def execGapRead (l : Link) (tag : Byte) (body : List Byte) (s : State) : Out :=
  .next (serve l .gapRead tag body (parseNone body) gapRead s)

/-- The effects of FAULT_CLEAR (R110). -/
def clearViolation (s : State) : State := s.modGap (fun g => { g with violation := false, stray := 0 })

/-- FAULT_CLEAR (R110): the latch and the stray count before the request are carried. -/
def faultClear (_ : Unit) (s : State) : Answer :=
  accepted (clearViolation s) (fun _ => Status.ok.code :: (flagField s.gap.violation ++ natField 2 s.gap.stray))

def execFaultClear (tag : Byte) (body : List Byte) (s : State) : Out :=
  .next (serve .cell .faultClear tag body (parseNone body) faultClear s)

/-! ### SPARK_IN_PULSE (R99, R100, R104, R108, R109) -/

/-- Largest values of the counters of Table 6-1. -/
def max16 : Nat := 65535
def max32 : Nat := 4294967295

/-- A pulse's interval and its place in the window (R99, R100), presence and total (R104). -/
def Gap.pulsed (g : Gap) : Gap :=
  let measured := g.interval != max16
  { g with
    interval := 0
    n := satInc max16 g.n
    m := if measured then satInc max16 g.m else g.m
    sum := if measured then satAdd max32 g.sum g.interval else g.sum
    presence := true
    pulseTotal := satInc max32 g.pulseTotal }

/-- The counts of the open run, its contour and the next trace record (R104, R165). -/
def countDischarge (s : State) : State :=
  match s.run with
  | none => s
  | some run =>
    let s1 := s.modLive run.contour (fun v => { v with discharges := satInc max32 v.discharges })
    { s1 with
      run := some { run with discharges := satInc max32 run.discharges }
      trace := { s1.trace with tally := satInc 255 s1.trace.tally } }

/-- The latch is set, VIOLATION is posted, and the condition reaches the Run Controller (R109). -/
def latchViolation (s : State) : State :=
  let s1 := s.modGap (fun g => { g with violation := true })
  arise { Causes.none with violation := true }
    (post (.violation s.gap.stray (s.run.map (fun r => (r.number, r.phase))) s.device) s1)

/-- The test of a pulse as a stray (R108). -/
def strayTest (s : State) : State :=
  if s.sparkOk then s
  else
    let s1 := s.modGap (fun g => { g with stray := satInc max16 g.stray })
    if !s.gap.violation && decide (s.cfg.strayLimit < s1.gap.stray) then latchViolation s1 else s1

/-- SPARK_IN_PULSE. -/
def sparkInPulse (s : State) : State :=
  if s.resetLow then s else drive (strayTest (countDischarge (s.modGap Gap.pulsed)))

def execSparkInPulse (s : State) : Out := .next (sparkInPulse s)

/-! ### Shorts (R105 to R107) -/

/-- SHORT_IN_RISE (R105): an episode begins where a run is open. -/
def shortInRise (s : State) : State :=
  if s.shortIn then s
  else
    { s with
      shortIn := true
      gap := if s.run.isSome then { s.gap with episode := some ⟨0, false, false⟩ } else s.gap }

def execShortInRise (s : State) : Out := .next (shortInRise s)

/-- SHORT_IN_FALL (R105). -/
def shortInFall (s : State) : State := { s with shortIn := false, gap := { s.gap with episode := none } }

def execShortInFall (s : State) : Out := .next (shortInFall s)

/-- The open run's qualified short count (R105). -/
def countShort (s : State) : State :=
  if s.gap.settle.isNone then s.modRun (fun r => { r with shorts := satInc max16 r.shorts }) else s

/-- SHORT_QUALIFY (R105). -/
def shortQualify (s : State) : State :=
  match s.gap.episode with
  | some e =>
    if e.qualified then s
    else countShort (s.modGap (fun g => { g with episode := some { e with qualified := true }, shortSince := true }))
  | none => s

def execShortQualify (s : State) : Out := .next (shortQualify s)

/-- The conditions of a tilt mark at a pinch (R107). -/
def tiltNeeded (s : State) (run : Run) : Bool :=
  match s.contour? run.contour with
  | none => false
  | some c =>
    let a := c.answers s.cfg.permitLead
    !a.full && (run.kind == .release || (!a.empty && a.allRemnants))

/-- What a pinch asks of the Retention Unit (R107, R135). -/
def pinchTilt (s : State) : State :=
  match s.run with
  | none => s
  | some run => if tiltNeeded s run then setTilt run.contour s else s

/-- PINCH (R106, R107). -/
def pinch (s : State) : State :=
  match s.gap.episode with
  | some e =>
    if e.pinched then s
    else
      let s1 := s.modGap (fun g => { g with episode := some { e with pinched := true } })
      drive (arise { Causes.none with pinch := true } (pinchTilt s1))
  | none => s

def execPinch (s : State) : Out := .next (pinch s)

/-! ### WINDOW_END (R100 to R103) -/

/-- The setting that a mean identifies: the lowest index whose band holds it (R101). `i` numbers the first entry. -/
def identify (mean : Nat) : Nat → List (Nat × Nat) → Ident
  | _, [] => .unknown
  | i, (centre, tol) :: rest =>
    if centre ≠ 0 ∧ ((mean : Int) - centre).natAbs ≤ tol then .setting i else identify mean (i + 1) rest

/-- The window in progress as a record. -/
def Gap.window (g : Gap) : WindowRecord := ⟨g.n, g.m, g.sum, g.eligible⟩

/-- A window is non-neutral (R101). -/
def WindowRecord.judges (w : WindowRecord) : Bool := decide (4 ≤ w.m)

/-- The record of the window and, if it is non-neutral, its setting and mean (R100, R101). -/
def Gap.identified (g : Gap) (settings : List (Nat × Nat)) : Gap :=
  if g.window.judges then
    { g with
      lastWindow := some g.window
      ident := some (identify (g.sum / g.m) 0 settings)
      lastMean := some (g.sum / g.m) }
  else { g with lastWindow := some g.window }

/-- The mismatch counter at the end of an eligible non-neutral window (R103). "Its value never passes mismatch_limit":
a counter that a break has left at the limit stays there, and SETTING is not presented again (log 39). -/
def judgeWindow (w : WindowRecord) (s : State) : State :=
  match s.run with
  | none => s
  | some run =>
    if !w.eligible || !w.judges then s
    else if s.gap.ident = some (.setting run.expected) then clearMismatch s
    else if s.cfg.mismatchLimit ≤ s.gap.mismatch then s
    else
      let s1 := s.modGap (fun g => { g with mismatch := g.mismatch + 1 })
      if s1.gap.mismatch = s.cfg.mismatchLimit then arise { Causes.none with setting := true } s1 else s1

/-- Ref counts of a window period: window_period times 100 µs (R100). -/
def windowPeriod (cfg : ConfigRecord) : Nat := cfg.windowPeriod * 1000

/-- A window that begins now is eligible (R102). -/
def eligibleNow (s : State) : Bool := s.run.any (fun r => r.phase.judged) && s.gap.settle.isNone

/-- The next window begins (R100, R102). -/
def beginWindow (s : State) : State :=
  s.modGap (fun g => { g with n := 0, m := 0, sum := 0, eligible := eligibleNow s, windowTimer := windowPeriod s.cfg })

/-- WINDOW_END (R100 to R103). -/
def windowEnd (s : State) : State :=
  if s.resetLow then s
  else drive (beginWindow (judgeWindow s.gap.window (s.modGap (fun g => g.identified s.cfg.settings))))

def execWindowEnd (s : State) : Out := .next (windowEnd s)

/-! ### SETTLE_END (R111) -/

/-- SETTLE_END (R111): the settle window becomes IDLE, and no event is posted. -/
def settleEnd (s : State) : State := s.modGap (fun g => { g with settle := none })

def execSettleEnd (s : State) : Out := .next (settleEnd s)

end Sys2Proof.Machine
end

