-- ==== Sys2Proof/Machine/ConfigCommands.lean ====
section
/-! DEFINITION. Configuration, Trace Buffer reads, and the events of the whole device (chapters 9 and 11), with the
progress sample's event (chapter 3). -/

namespace Sys2Proof.Machine

/-! ### CONFIG_WRITE, CONFIG_READ (R162 to R164) -/

/-- A hole under a lowered hole_limit (R163). -/
def HoleLive.capped (v : HoleLive) (limit : Nat) : HoleLive :=
  if limit ≤ v.fails then { v with fails := limit, state := if v.state = .lost then .lost else .blocked } else v

/-- Every hole of an ARMED or ACTIVE plate under a lowered hole_limit (R163). -/
def capHoles (limit : Nat) (s : State) : State :=
  if s.plate.state.live then
    { s with plate := { s.plate with
      holes := Table.mapAll s.plate.holes (fun _ h => { h with live := h.live.map (fun v => v.capped limit) }) } }
  else s

/-- A new index pitch makes the index reference absent (R30, R163). -/
def Channel.repitched (c : Channel) (old new : Nat) : Channel := if old = new then c else { c with index := none }

/-- A new window period ends the window in progress without identification (R100, R163). -/
def Gap.rewindowed (g : Gap) (old new : ConfigRecord) : Gap :=
  if old.windowPeriod = new.windowPeriod then g
  else { g with n := 0, m := 0, sum := 0, eligible := false, windowTimer := windowPeriod new }

/-- The effects of an accepted CONFIG_WRITE (R162, R163). -/
def applyConfig (new : ConfigRecord) (s : State) : State :=
  let old := s.cfg
  let s1 := { s with
    cfg := new
    axisX := s.axisX.repitched old.indexPitchX new.indexPitchX
    axisY := s.axisY.repitched old.indexPitchY new.indexPitchY
    gap := s.gap.rewindowed old new }
  let s2 := if old.permitLead = new.permitLead then s1 else evaluateAll s1
  if new.holeLimit < old.holeLimit then capHoles new.holeLimit s2 else s2

/-- CONFIG_WRITE (R162): the record in force is carried whatever the status. -/
def configWrite (new : ConfigRecord) (s : State) : Answer :=
  if s.run.isSome then (s, some (Status.busy.code :: configFields s.cfg))
  else accepted (applyConfig new s) (fun t => Status.ok.code :: configFields t.cfg)

def execConfigWrite (tag : Byte) (body : List Byte) (s : State) : Out :=
  .next (serve .cell .configWrite tag body (parseConfig body) configWrite s)

/-- CONFIG_READ (R164). -/
def configRead (_ : Unit) (s : State) : Answer := reading (Status.ok.code :: configFields s.cfg) s

def execConfigRead (tag : Byte) (body : List Byte) (s : State) : Out :=
  .next (serve .cell .configRead tag body (parseNone body) configRead s)

/-! ### TRACE_READ (R167) -/

/-- The Trace Buffer after a read (R167). -/
def Trace.drained (t : Trace) : Trace := { t with fifo := t.fifo.drop 12, dropped := 0 }

/-- TRACE_READ (R167). -/
def traceRead (_ : Unit) (s : State) : Answer :=
  ({ s with trace := s.trace.drained }, some (traceReadBody s.trace))

def execTraceRead (tag : Byte) (body : List Byte) (s : State) : Out :=
  .next (serve .cell .traceRead tag body (parseNone body) traceRead s)

/-! ### PROGRESS_SAMPLE (R39, R40) -/

/-- The phase and kind of the open run, where its samples are taken (R39). -/
def sampledRun (s : State) : Option Run := s.run.filter (fun r => r.phase.tracking)

/-- PROGRESS_SAMPLE (R39, R40): the completion of the sample in progress, or expiry and completion together where
none is in progress; an abandoned sample has no effect (log 16). -/
def progressSample (s : State) : State :=
  if s.resetLow then s
  else
    match s.sampling with
    | .inProgress phase kind presence => drive (completeSample phase kind presence { s with sampling := .none })
    | .abandoned => { s with sampling := .none }
    | .none =>
      match sampledRun s with
      | none => s
      | some run => drive (completeSample run.phase run.kind s.gap.presence (takePresence s))

def execProgressSample (s : State) : Out := .next (progressSample s)

/-! ### HOLD_IN_CHANGE (R146) -/

/-- HOLD_IN_CHANGE (R146): INHIBIT carries the levels after the permits have followed the edge. -/
def holdInChange (level : Bool) (s : State) : State :=
  if s.resetLow || level == s.holdIn then s
  else
    let s1 := drivePermits { s with holdIn := level }
    driveAttn (post (.inhibit level s1.sparkOk s1.threadOk) s1)

def execHoldInChange (level : Bool) (s : State) : Out := .next (holdInChange level s)

/-! ### Reset and self-test (R168) -/

/-- DEVICE_RESET (R168): while RESET_IN is low every block holds its values after a device reset. What is no block's
stays: the SHORT_IN line, the queue, and the counter of free values. -/
def deviceReset (s : State) : State :=
  { State.reset with resetLow := true, shortIn := s.shortIn, freeCount := s.freeCount, pending := s.pending }

def execDeviceReset (s : State) : Out := .next (deviceReset s)

/-- RESET_END (R168): STARTING, and the self-test begins. -/
def resetEnd (s : State) : State :=
  if s.resetLow then
    { s with resetLow := false, device := .starting, selfTest := .running, selfTestLeft := Config.selfTestTime }
  else s

def execResetEnd (s : State) : Out := .next (resetEnd s)

/-- The device after its self-test (R168, Table 11-5). -/
def tested (readsBack : Bool) (s : State) : State :=
  if readsBack then { s with device := .ready, selfTest := .pass, selfTestLeft := 0 }
  else { s with device := .failed, selfTest := .mapStore, selfTestLeft := 0 }

/-- SELF_TEST_END (R168): only in STARTING (log 32). -/
def selfTestEnd (readsBack : Bool) (s : State) : State :=
  if s.resetLow || s.device != .starting then s else drive (tested readsBack s)

def execSelfTestEnd (readsBack : Bool) (s : State) : Out := .next (selfTestEnd readsBack s)

end Sys2Proof.Machine
end

