-- ==== Sys2Proof/Machine/Validate.lean ====
section
/-! DEFINITION. Validation of the loaded map (1.6): errors in the order they are found, and the computed fields. -/

namespace Sys2Proof.Machine

/-! ### A contour (R16 to R18) -/

/-- The lengths of a loop's segments (R17). -/
def Contour.lengths (c : Contour) : List Nat := lengthsThrough (closed c.vertices)

/-- Where a declared tab lies on the loop, or none where it is out of place (R18). -/
def placeTab (lens : List Nat) (t : DeclTab) : Option Span :=
  match lens[t.start.seg]?, lens[t.stop.seg]? with
  | some n, some m =>
    let offs := offsetsFrom 0 lens
    let ts := offs.getD t.start.seg 0 + t.start.off
    let te := offs.getD t.stop.seg 0 + t.stop.off
    if t.start.off ≤ n ∧ t.stop.off ≤ m ∧ ts < te then some ⟨ts, te⟩ else none
  | _, _ => none

/-- The tabs of a list with their numbers. -/
def numbered {α : Type} : Nat → List α → List (Nat × α)
  | _, [] => []
  | i, x :: rest => (i, x) :: numbered (i + 1) rest

/-- The placed tabs with their numbers (R18). -/
def Contour.placed (c : Contour) : List (Nat × Span) :=
  (numbered 0 c.tabs).filterMap (fun e => (placeTab c.lengths e.2).map (fun p => (e.1, p)))

/-- Two placed tabs overlap or touch, vertex 0 included (R18). -/
def tabsMeet (loopLen : Nat) (p q : Span) : Bool :=
  (decide (q.lo ≤ p.hi) && decide (p.lo ≤ q.hi)) ||
    (p.lo == 0 && q.hi == loopLen) || (q.lo == 0 && p.hi == loopLen)

/-- The TAB_OVERLAP errors of placed tabs, in the order of the pairs (R18). -/
def overlapErrors (idx loopLen : Nat) : List (Nat × Span) → List MapError
  | [] => []
  | (j, p) :: rest =>
    (rest.filter (fun e => tabsMeet loopLen p e.2)).map (fun e => ⟨.tabOverlap, some idx, none, some e.1, some j⟩) ++
      overlapErrors idx loopLen rest

/-- An error of a contour with an item. -/
def contourError (code : ErrCode) (idx : Nat) (item : Option Nat) : MapError := ⟨code, some idx, none, item, none⟩

/-- The segment checks (R17). -/
def segmentErrors (idx : Nat) (lens : List Nat) : List MapError :=
  ((numbered 0 lens).filter (fun e => e.2 == 0)).map (fun e => contourError .zeroSegment idx (some e.1)) ++
    (if Config.maxLoop < lens.sum then [contourError .loopLong idx none] else [])

/-- The tab checks (R18). -/
def tabErrors (idx : Nat) (c : Contour) : List MapError :=
  ((numbered 0 c.tabs).filter (fun e => (placeTab c.lengths e.2).isNone)).map
      (fun e => contourError .tabPlace idx (some e.1)) ++
    (c.placed.filter (fun e => decide (e.2.hi - e.2.lo < c.width))).map
      (fun e => contourError .tabNarrow idx (some e.1)) ++
    overlapErrors idx c.lengths.sum c.placed

/-- An error that is recorded when a condition holds. -/
def errorWhen (cond : Bool) (e : MapError) : List MapError := if cond then [e] else []

/-- The checks of one contour, in the order of R16. -/
def contourErrors (holes : Table Hole) (idx : Nat) (c : Contour) : List MapError :=
  errorWhen (c.cls != .drop && c.width == 0) (contourError .width idx none) ++
    errorWhen (if c.cls = .drop then !c.tabs.isEmpty else c.tabs.isEmpty) (contourError .classTabs idx none) ++
    (if c.vertices.length < 3 then [contourError .fewVertices idx none]
     else segmentErrors idx c.lengths ++ tabErrors idx c) ++
    errorWhen (!holes.any (fun e => e.2.owner == idx)) (contourError .noHole idx none)

/-! ### A hole (R19, R20) -/

/-- An entry candidate: entry deviation, entry segment, entry position. -/
structure Entry where
  dev : Nat
  seg : Nat
  pos : Nat
  deriving DecidableEq, Repr

/-- The entry deviation of a point on a segment: the larger of dev and the overhang (R20). -/
def Leg.entryDev (s : Leg) (p : Point) : Nat :=
  let q := s.project p
  let overhang := if q.along < 0 then (-q.along).toNat else (q.along - s.len).toNat
  max q.dev overhang

/-- The candidate with the least entry deviation, the lowest index among equals; segments of length 0 give none
(R20). `i` is the number of the first segment and `s` its start offset. -/
def bestEntry (p : Point) : Nat → Nat → List Leg → Option Entry
  | _, _, [] => none
  | i, s, leg :: rest =>
    let here : Option Entry :=
      if leg.len = 0 then none else some ⟨leg.entryDev p, i, s + leg.clamp (leg.project p).along⟩
    match here, bestEntry p (i + 1) (s + leg.len) rest with
    | some e, some f => if e.dev ≤ f.dev then some e else some f
    | some e, none => some e
    | none, found => found

/-- The legs of a loop as validation measures them. -/
def Contour.measured (c : Contour) : List Leg := legsThrough (closed c.vertices) c.lengths

/-- The last point of the lead-in, point m (R20). -/
def Hole.tip (h : Hole) : Point := h.leadIn.getLastD h.centre

/-- The hole's entry on its owner's loop: an entry at Lc is at vertex 0 (R20). -/
def entryOf (c : Contour) (h : Hole) : Option Entry :=
  if c.vertices.length < 3 then none
  else (bestEntry h.tip 0 0 c.measured).map (fun e => if e.pos = c.lengths.sum then ⟨e.dev, 0, 0⟩ else e)

/-- An entry lies in a placed tab, ends inside; e = 0 counts as inside a tab that ends at Lc (R20). -/
def entryInTab (loopLen e : Nat) (tab : Span) : Bool :=
  (decide (tab.lo ≤ e) && decide (e ≤ tab.hi)) || (e == 0 && tab.hi == loopLen)

/-- The lengths of a lead-in's segments, from the centre (R19). -/
def Hole.lengths (h : Hole) : List Nat := lengthsThrough (h.centre :: h.leadIn)

/-- The entry checks of a hole (R20). -/
def entryErrors (entryTol : Nat) (idx : Nat) (c : Contour) (h : Hole) : List MapError :=
  match entryOf c h with
  | none => []
  | some e =>
    errorWhen (decide (entryTol < e.dev)) ⟨.entryOff, some h.owner, some idx, none, none⟩ ++
      errorWhen (c.placed.any (fun t => entryInTab c.lengths.sum e.pos t.2))
        ⟨.entryInTab, some h.owner, some idx, none, none⟩

/-- The checks of one hole (R19, R20). -/
def holeErrors (contours : Table Contour) (entryTol : Nat) (idx : Nat) (h : Hole) : List MapError :=
  match Table.get? contours h.owner with
  | none => [⟨.holeOwner, none, some idx, none, none⟩]
  | some c =>
    ((numbered 0 h.lengths).filter (fun e => e.2 == 0)).map
        (fun e => ⟨.leadinZero, some h.owner, some idx, some e.1, none⟩) ++
      entryErrors entryTol idx c h

/-! ### The map (R11, R12, R16, R21) -/

/-- Every error of the map, in the order found (R16). -/
def mapErrors (p : Plate) : List MapError :=
  errorWhen p.contours.isEmpty ⟨.noContour, none, none, none, none⟩ ++
    p.contours.flatMap (fun e => contourErrors p.holes e.1 e.2) ++
    p.holes.flatMap (fun e => holeErrors p.contours p.entryTol e.1 e.2)

/-- The computed fields of a contour (R17, R18). -/
def Contour.computed (c : Contour) : ContourGeom where
  segLen := c.lengths
  segOff := offsetsFrom 0 c.lengths
  loopLen := c.lengths.sum
  tabs := c.placed.map (·.2)

/-- The computed fields of a hole (R19, R20). -/
def Hole.computed (contours : Table Contour) (h : Hole) : HoleGeom :=
  let e := (Table.get? contours h.owner).bind (fun c => entryOf c h)
  { segLen := h.lengths
    lin := h.lengths.sum
    entrySeg := (e.map (·.seg)).getD 0
    entry := (e.map (·.pos)).getD 0 }

/-- The plate when validation passes (R11). -/
def Plate.passed (p : Plate) : Plate :=
  { p with
    state := .armed
    validation := none
    contours := Table.mapAll p.contours (fun _ c => { c with geom := some c.computed, live := some ContourLive.start })
    holes := Table.mapAll p.holes (fun _ h =>
      { h with geom := some (h.computed p.contours), live := some HoleLive.start }) }

/-- The plate when validation fails (R12): the first eight errors, and "more" when there is a ninth. -/
def Plate.failed (p : Plate) (errors : List MapError) : Plate :=
  { p with state := .loading, validation := none, errors := errors.take 8, more := decide (8 < errors.length) }

/-- The loop segments that R20 projects, over all holes. -/
def Plate.projections (p : Plate) : Nat :=
  (p.holes.map (fun e =>
    match Table.get? p.contours e.2.owner with
    | some c => if c.vertices.length < 3 then 0 else (c.lengths.filter (fun n => n != 0)).length
    | none => 0)).sum

/-- The bound of a validation in µs (R21). -/
def Plate.bound (p : Plate) : Nat := 50 + 2 * p.used + p.projections

end Sys2Proof.Machine
end

