-- ==== Sys2Proof/Machine/PlateCommands.lean ====
section
/-! DEFINITION. The requests of the Cell Link on the plate map, and VALIDATION_COMPLETE (chapter 1). -/

namespace Sys2Proof.Machine

/-- The plate changes state, and PLATE_STATE is posted with its identifier (R1). -/
def toPlateState (st : PlateState) (s : State) : State :=
  post (.plateState st s.plate.ident) { s with plate := { s.plate with state := st } }

/-- A reply of the status OK alone. -/
def okAlone (_ : State) : List Byte := [Status.ok.code]

/-! ### PLATE_BEGIN (R9) -/

/-- The effects of an accepted PLATE_BEGIN (R9, R166). -/
def beginPlate (ident : Nat) (s : State) : State :=
  toPlateState .loading { s with
    plate := { s.plate with ident := some ident }
    trace := { s.trace with fifo := [], dropped := 0 } }

/-- PLATE_BEGIN (R9). -/
def plateBegin (ident : Nat) (s : State) : Answer :=
  if s.plate.state = .empty then accepted (beginPlate ident s) okAlone else refuse .state s

def execPlateBegin (tag : Byte) (body : List Byte) (s : State) : Out :=
  .next (serve .cell .plateBegin tag body (parseWord body) plateBegin s)

/-! ### CONTOUR_LOAD (R4) -/

/-- The entry that CONTOUR_LOAD defines: an empty vertex list (R4). -/
def ContourLoadReq.entry (q : ContourLoadReq) (cls : RetClass) : Contour where
  cls := cls
  width := q.width
  vertices := []
  tabs := q.tabs
  geom := none
  live := none

/-- The map with a contour entry defined or replaced. -/
def putContour (idx : Nat) (c : Contour) (s : State) : State :=
  { s with plate := { s.plate with contours := Table.set s.plate.contours idx c } }

/-- CONTOUR_LOAD (R4). -/
def contourLoad (q : ContourLoadReq) (s : State) : Answer :=
  if s.plate.state ≠ .loading then refuse .state s
  else
    match RetClass.ofCode q.cls with
    | none => refuse .range s
    | some cls =>
      if 63 < q.index ∨ 4 < q.tabs.length then refuse .range s
      else
        let s1 := putContour q.index (q.entry cls) s
        (s1, some (contourLoadBody s1.plate q.index))

def execContourLoad (tag : Byte) (body : List Byte) (s : State) : Out :=
  .next (serve .cell .contourLoad tag body (parseContourLoad body) contourLoad s)

/-! ### VERTEX_APPEND (R6) -/

/-- The checks of R6, in their order. -/
def checkVertexAppend (q : VertexAppendReq) (s : State) : Except Status Contour :=
  if s.plate.state ≠ .loading then .error .state
  else if 63 < q.contour ∨ q.points.length = 0 ∨ 32 < q.points.length then .error .range
  else
    match s.contour? q.contour with
    | none => .error .state
    | some c =>
      if c.vertices ≠ [] ∧ 1024 < c.vertices.length + q.points.length then .error .range
      else if s.plate.free < q.points.length then .error .full
      else .ok c

/-- VERTEX_APPEND (R6): its fields are carried whatever the status. -/
def vertexAppend (q : VertexAppendReq) (s : State) : Answer :=
  match checkVertexAppend q s with
  | .error st => (s, some (st.code :: vertexAppendFields s.plate (some q.contour)))
  | .ok c =>
    let s1 := putContour q.contour { c with vertices := c.vertices ++ q.points } s
    (s1, some (Status.ok.code :: vertexAppendFields s1.plate (some q.contour)))

def execVertexAppend (tag : Byte) (body : List Byte) (s : State) : Out :=
  .next (serve .cell .vertexAppend tag body (parseVertexAppend body) vertexAppend s)

/-! ### HOLE_LOAD (R8) -/

/-- The entry that HOLE_LOAD defines (R8). -/
def HoleLoadReq.entry (q : HoleLoadReq) (loc : Location) (dirs : Dirs) : Hole where
  owner := q.owner
  loc := loc
  dirs := dirs
  centre := q.centre
  leadIn := q.leadIn
  geom := none
  live := none

/-- The defined holes other than one that name an owner. -/
def Plate.othersOf (p : Plate) (idx owner : Nat) : Nat := ((p.holesOf owner).filter (fun k => k != idx)).length

/-- The pool's free places with an entry's previous lead-in counted as free (R8, check 4). -/
def Plate.freeFor (p : Plate) (idx : Nat) : Nat :=
  p.free + ((Table.get? p.holes idx).map (fun h => h.leadIn.length)).getD 0

/-- The checks of R8, in their order. -/
def checkHoleLoad (q : HoleLoadReq) (s : State) : Except Status Hole :=
  if s.plate.state ≠ .loading then .error .state
  else
    match Location.ofCode q.loc, Dirs.ofCode q.dirs with
    | some loc, some dirs =>
      if 127 < q.index ∨ 63 < q.owner ∨ q.leadIn.length = 0 ∨ 4 < q.leadIn.length then .error .range
      else if 4 ≤ s.plate.othersOf q.index q.owner then .error .full
      else if s.plate.freeFor q.index < q.leadIn.length then .error .full
      else .ok (q.entry loc dirs)
    | _, _ => .error .range

/-- HOLE_LOAD (R8): its fields are carried whatever the status. -/
def holeLoad (q : HoleLoadReq) (s : State) : Answer :=
  match checkHoleLoad q s with
  | .error st => (s, some (st.code :: holeLoadFields s.plate (some q.owner)))
  | .ok h =>
    let s1 := { s with plate := { s.plate with holes := Table.set s.plate.holes q.index h } }
    (s1, some (Status.ok.code :: holeLoadFields s1.plate (some q.owner)))

def execHoleLoad (tag : Byte) (body : List Byte) (s : State) : Out :=
  .next (serve .cell .holeLoad tag body (parseHoleLoad body) holeLoad s)

/-! ### PLATE_ARM, VALIDATION_COMPLETE (R10 to R13) -/

/-- The effects of a taken PLATE_ARM (R10); the validation ends at its bound at the latest (R21). -/
def armPlate (s : State) : State :=
  toPlateState .validating { s with plate := { s.plate with
    errors := [], more := false, entryTol := s.cfg.entryTol, validation := some (s.plate.bound * 10) } }

/-- PLATE_ARM (R10): its reply is held until validation completes. -/
def plateArm (_ : Unit) (s : State) : Answer :=
  if s.plate.state = .loading then (drive (armPlate s), none) else refuse .state s

def execPlateArm (tag : Byte) (body : List Byte) (s : State) : Out :=
  .next (serve .cell .plateArm tag body (parseNone body) plateArm s)

/-- PLATE_ARM's reply, if it is still the Cell Link's request in progress (R11, R12). -/
def answerArm (body : List Byte) (s : State) : State :=
  match s.cell.busy with
  | some ⟨kind, tag, none, _⟩ => answerWith .cell (replyKind kind) kind tag body s
  | _ => s

/-- Validation has found no error (R11). -/
def validationPass (s : State) : State :=
  answerArm [Status.ok.code, 0] (drive (toPlateState .armed { s with plate := s.plate.passed }))

/-- Validation has found errors (R12). -/
def validationFail (errors : List MapError) (s : State) : State :=
  let s1 := drive (toPlateState .loading { s with plate := s.plate.failed errors })
  answerArm (Status.range.code :: errorListField s1.plate) s1

/-- VALIDATION_COMPLETE (R11, R12). -/
def validationComplete (s : State) : State :=
  if s.plate.state = .validating then
    (match mapErrors s.plate with
      | [] => validationPass s
      | errors => validationFail errors s)
  else s

def execValidationComplete (s : State) : Out := .next (validationComplete s)

/-! ### PLATE_DISARM, PLATE_CLOSE (R14, R15) -/

/-- Every computed and live field is discarded (R3, R14). -/
def Plate.stripped (p : Plate) : Plate :=
  { p with
    contours := Table.mapAll p.contours (fun _ c => { c with geom := none, live := none })
    holes := Table.mapAll p.holes (fun _ h => { h with geom := none, live := none }) }

/-- The effects of an accepted PLATE_DISARM (R14). -/
def disarmPlate (s : State) : State := toPlateState .loading { s with plate := s.plate.stripped, catchSet := [] }

/-- PLATE_DISARM (R14). -/
def plateDisarm (_ : Unit) (s : State) : Answer :=
  if s.plate.state = .armed then accepted (disarmPlate s) okAlone else refuse .state s

def execPlateDisarm (tag : Byte) (body : List Byte) (s : State) : Out :=
  .next (serve .cell .plateDisarm tag body (parseNone body) plateDisarm s)

/-- The effects of an accepted PLATE_CLOSE (R15). -/
def closePlate (s : State) : State :=
  toPlateState .empty { s with
    plate := { s.plate with ident := none, contours := [], holes := [], errors := [], more := false }
    catchSet := [] }

/-- The plate has nothing to close (R15, check 1). -/
def PlateState.unclosable : PlateState → Bool
  | .empty | .validating => true
  | .loading | .armed | .active => false

/-- PLATE_CLOSE (R15). -/
def plateClose (_ : Unit) (s : State) : Answer :=
  if s.plate.state.unclosable then refuse .state s
  else if s.run.isSome || s.planner.target.isSome then refuse .busy s
  else accepted (closePlate s) okAlone

def execPlateClose (tag : Byte) (body : List Byte) (s : State) : Out :=
  .next (serve .cell .plateClose tag body (parseNone body) plateClose s)

/-! ### Reading the map (R22, R23, R141, R142) -/

/-- PLATE_STATUS (R22). -/
def plateStatus (_ : Unit) (s : State) : Answer := reading (plateStatusBody s.plate) s

def execPlateStatus (tag : Byte) (body : List Byte) (s : State) : Out :=
  .next (serve .cell .plateStatus tag body (parseNone body) plateStatus s)

/-- VERTEX_READ (R23). -/
def vertexRead (q : VertexReadReq) (s : State) : Answer :=
  if s.plate.state = .empty then refuse .state s
  else if 63 < q.contour ∨ q.count = 0 ∨ 32 < q.count then refuse .range s
  else
    match s.contour? q.contour with
    | none => refuse .state s
    | some c =>
      if c.vertices.length ≤ q.first then refuse .range s
      else reading (vertexReadBody s.plate c q.first q.count) s

def execVertexRead (tag : Byte) (body : List Byte) (s : State) : Out :=
  .next (serve .cell .vertexRead tag body (parseVertexRead body) vertexRead s)

/-- CONTOUR_READ (R141). -/
def contourRead (idx : Nat) (s : State) : Answer :=
  if s.plate.state = .empty then refuse .state s
  else if 63 < idx then refuse .range s
  else
    match s.contour? idx with
    | none => refuse .state s
    | some c => reading (contourReadBody s idx c) s

def execContourRead (tag : Byte) (body : List Byte) (s : State) : Out :=
  .next (serve .cell .contourRead tag body (parseByte body) contourRead s)

/-- HOLE_READ (R142). -/
def holeRead (idx : Nat) (s : State) : Answer :=
  if s.plate.state = .empty then refuse .state s
  else if 127 < idx then refuse .range s
  else
    match s.hole? idx with
    | none => refuse .state s
    | some h => reading (holeReadBody s idx h) s

def execHoleRead (tag : Byte) (body : List Byte) (s : State) : Out :=
  .next (serve .cell .holeRead tag body (parseByte body) holeRead s)

end Sys2Proof.Machine
end

