-- ==== Sys2Proof/Machine/RetentionCommands.lean ====
section
/-! DEFINITION. The requests of the Cell Link on catches, slugs, contours and holes (chapters 7 and 8). -/

namespace Sys2Proof.Machine

/-- The two checks that catch and slug requests share (R136 to R139, checks 1 and 2). -/
def liveContour (idx : Nat) (s : State) : Except Status Contour :=
  if !s.plate.state.live then .error .state
  else if 63 < idx then .error .range
  else
    match s.contour? idx with
    | none => .error .range
    | some c => .ok c

/-- The limits of the open run are computed again where it is on the contour (R95). -/
def recomputeOn (idx : Nat) (s : State) : State := if s.runOn idx then recomputeLimits s else s

/-! ### CATCH_ARM (R136) -/

/-- A contour whose slug can no longer be caught (R136, check 3). -/
def RState.noCatch : RState → Bool
  | .removed | .void | .loose => true
  | .planned | .partly | .held | .suspect | .free => false

/-- The effects of an accepted CATCH_ARM, in order (R136). -/
def armCatch (idx : Nat) (s : State) : State :=
  evaluate idx (recomputeOn idx { s with catchSet := catchInsert idx s.catchSet })

/-- CATCH_ARM's reply, with the run's limits when they were computed again (R136). -/
def catchArmBody (idx : Nat) (s : State) : List Byte :=
  catchBody s idx ++ (if s.runOn idx then (s.run.map runLimitsField).getD [] else [])

/-- CATCH_ARM (R136). -/
def catchArm (idx : Nat) (s : State) : Answer :=
  match liveContour idx s with
  | .error st => refuse st s
  | .ok c =>
    if c.lv.state.noCatch then refuse .state s
    else if s.catchArmed idx then reading (catchBody s idx) s
    else if 4 ≤ s.catchSet.length then refuse .full s
    else accepted (armCatch idx s) (catchArmBody idx)

def execCatchArm (tag : Byte) (body : List Byte) (s : State) : Out :=
  .next (serve .cell .catchArm tag body (parseByte body) catchArm s)

/-! ### CATCH_DISARM (R137) -/

/-- The effects of an accepted CATCH_DISARM, in order (R137). -/
def disarmCatch (idx : Nat) (s : State) : State :=
  evaluate idx (recomputeOn idx { s with catchSet := catchRemove idx s.catchSet })

/-- The open run needs the catch for its final stretch (R137, check 4). -/
def catchInUse (idx : Nat) (s : State) : Bool := s.run.any (fun r => r.contour == idx && r.final)

/-- CATCH_DISARM (R137). -/
def catchDisarm (idx : Nat) (s : State) : Answer :=
  match liveContour idx s with
  | .error st => refuse st s
  | .ok c =>
    if c.lv.state = .free then refuse .load s
    else if catchInUse idx s then refuse .inUse s
    else if !s.catchArmed idx then reading (catchBody s idx) s
    else accepted (disarmCatch idx s) (fun t => catchBody t idx)

def execCatchDisarm (tag : Byte) (body : List Byte) (s : State) : Out :=
  .next (serve .cell .catchDisarm tag body (parseByte body) catchDisarm s)

/-! ### SLUG_REMOVED (R138) -/

/-- The effects of an accepted SLUG_REMOVED, in order (R138). -/
def removeSlug (idx : Nat) (s : State) : State :=
  let s1 := s.modLive idx (fun v => { v with removed := true })
  evaluate idx { s1 with catchSet := catchRemove idx s1.catchSet }

/-- SLUG_REMOVED (R138). -/
def slugRemoved (idx : Nat) (s : State) : Answer :=
  match liveContour idx s with
  | .error st => refuse st s
  | .ok c =>
    if s.runOn idx then refuse .busy s
    else if c.lv.state ≠ .free ∧ c.lv.state ≠ .loose then refuse .state s
    else accepted (removeSlug idx s) (fun t => Status.ok.code :: natField 1 t.catchSet.length)

def execSlugRemoved (tag : Byte) (body : List Byte) (s : State) : Out :=
  .next (serve .cell .slugRemoved tag body (parseByte body) slugRemoved s)

/-! ### CONTOUR_VOID (R139) -/

/-- A contour that can be withdrawn from the work (R139, check 4). -/
def RState.voidable : RState → Bool
  | .planned | .partly | .held | .suspect => true
  | .free | .loose | .removed | .void => false

/-- The effects of an accepted CONTOUR_VOID, in order (R139). -/
def voidContour (idx : Nat) (s : State) : State :=
  let s1 := s.modLive idx (fun v => { v with voided := true })
  evaluate idx { s1 with catchSet := catchRemove idx s1.catchSet }

/-- CONTOUR_VOID (R139). -/
def contourVoid (idx : Nat) (s : State) : Answer :=
  match liveContour idx s with
  | .error st => refuse st s
  | .ok c =>
    if s.runOn idx then refuse .busy s
    else if !c.lv.state.voidable then refuse .state s
    else accepted (voidContour idx s) (fun _ => [Status.ok.code])

def execContourVoid (tag : Byte) (body : List Byte) (s : State) : Out :=
  .next (serve .cell .contourVoid tag body (parseByte body) contourVoid s)

/-! ### HOLE_RESET (R129) -/

/-- The effect of an accepted HOLE_RESET on a hole (R129). -/
def HoleLive.reopened (v : HoleLive) : HoleLive :=
  { v with fails := 0, state := if v.state = .blocked then .opened else v.state }

/-- HOLE_RESET (R129). -/
def holeReset (idx : Nat) (s : State) : Answer :=
  if !s.plate.state.live then refuse .state s
  else if 127 < idx then refuse .range s
  else
    match s.hole? idx with
    | none => refuse .state s
    | some h =>
      (s.modHoleLive idx HoleLive.reopened,
        some [Status.ok.code, h.lv.reopened.state.code, BitVec.ofNat 8 h.lv.reopened.fails])

def execHoleReset (tag : Byte) (body : List Byte) (s : State) : Out :=
  .next (serve .cell .holeReset tag body (parseByte body) holeReset s)

end Sys2Proof.Machine
end

