-- ==== Sys2Proof/Machine/RunCommands.lean ====
section
/-! DEFINITION. The requests of the Motion Link that act on runs (chapter 4). -/

namespace Sys2Proof.Machine

/-! ### RUN_OPEN (R62, R63) -/

/-- The device or its position cannot be trusted (R62, check 3). -/
def openFault (s : State) : Bool := s.device != .ready || s.gap.violation || s.suspect || s.lineFault

/-- The retention state of the contour allows the kind (R62, check 6). -/
def kindAllowed (kind : RunKind) (c : Contour) (hole : Hole) : Bool :=
  match kind with
  | .first => c.lv.state == .planned || c.lv.state == .partly
  | .release => (c.lv.state == .held || c.lv.state == .suspect) && c.cls != .keep
  | .skim => (c.lv.state == .partly || c.lv.state == .held || c.lv.state == .suspect) && hole.lv.leadInCut

/-- The wire record lets a run be opened from a hole (R62, check 9). -/
def wireAllows (w : Wire) (h : Nat) : Bool :=
  match w with
  | .none => true
  | .hole k => k == h
  | .unknown | .kerf _ _ => false

/-- What the checks of RUN_OPEN find for the record (R62). -/
structure Opening where
  contour : Nat
  hole : Nat
  kind : RunKind
  dir : Dir
  expected : Nat
  e0 : Nat
  c : Nat
  lim : Limits
  deriving DecidableEq, Repr

/-- The fields of check 4, read (R62). -/
def openFields (q : RunOpenReq) (s : State) : Option (Contour × Hole × RunKind × Dir) := do
  let c ← if q.contour ≤ 63 then s.contour? q.contour else none
  let h ← if q.hole ≤ 127 then s.hole? q.hole else none
  let _ ← if h.owner = q.contour then some () else none
  let kind ← RunKind.ofCode q.kind
  let dir ← Dir.ofCode q.dir
  some (c, h, kind, dir)

/-- Checks 5 to 10 of R62. -/
def openChecks (q : RunOpenReq) (c : Contour) (h : Hole) (kind : RunKind) (dir : Dir) (s : State) :
    Except Status Opening :=
  if h.lv.state != .opened || !h.dirs.allows dir then .error .state
  else if !kindAllowed kind c h then .error .state
  else if kind = .release ∧ s.catchArmed q.contour = false then .error .state
  else if 7 < q.setting then .error .range
  else if !wireAllows s.planner.wire q.hole then .error .wire
  else
    let cut := cutFrom kind h.g.entry dir c
    let lim := computeLimits kind h.g.entry dir c (s.catchArmed q.contour) s.cfg.permitLead cut
    if lim.limit ≤ cut then .error .state
    else .ok ⟨q.contour, q.hole, kind, dir, q.setting, h.g.entry, cut, lim⟩

/-- The checks of R62, in their order. -/
def checkOpen (q : RunOpenReq) (s : State) : Except Status Opening :=
  if !s.plate.state.live then .error .state
  else if s.run.isSome then .error .busy
  else if openFault s then .error .fault
  else
    match openFields q s with
    | none => .error .range
    | some (c, h, kind, dir) => openChecks q c h kind dir s

/-- The next run number (R60). -/
def nextRunNumber (n : Nat) : Nat := if n = 0 ∨ n = 65535 then 1 else n + 1

/-- The record of a run just opened (Table 4-1). -/
def Opening.record (o : Opening) (number : Nat) : Run where
  number := number
  contour := o.contour
  hole := o.hole
  e0 := o.e0
  kind := o.kind
  dir := o.dir
  expected := o.expected
  phase := .awaitThread
  c := o.c
  limit := o.lim.limit
  stop := o.lim.stop
  final := o.lim.final
  holdback := o.lim.holdback
  leftHole := false
  warn := false
  halt := none
  brk := none
  plan := none
  breaks := 0
  discharges := 0
  shorts := 0
  sampledRem := none

/-- Ref counts of a sample period: sample_period times 20 µs (R39). -/
def samplePeriod (cfg : ConfigRecord) : Nat := cfg.samplePeriod * 200

/-- The plate becomes ACTIVE with its first run (R63, step 1). -/
def activate (s : State) : State :=
  if s.plate.state = .armed then
    post (.plateState .active s.plate.ident) { s with plate := { s.plate with state := .active } }
  else s

/-- The blocks at an accepted RUN_OPEN, before the phase is set (R63 steps 1 to 3, R38, R105, R113, R165). -/
def openBlocks (o : Opening) (s : State) : State :=
  let s1 := activate s
  let number := nextRunNumber s1.runCounter
  let run := o.record number
  let s2 := { s1 with
    runCounter := number
    run := some run
    prog := { Progress.idle with timer := some (samplePeriod s1.cfg), a := o.c }
    gap := { s1.gap with
      mismatch := 0
      shortSince := false
      episode := if s1.shortIn then some ⟨0, false, false⟩ else none }
    trace := { s1.trace with decimation := 0, tally := 0 } }
  postCatchNeeded run false o.lim s2

/-- The phase of a run just opened, by the wire record (R63, step 4 and 5). -/
def openPhase (o : Opening) (s : State) : State :=
  match s.planner.wire with
  | .hole _ => enterTracking (phaseAtHole o.kind (s.hole? o.hole)) (leadInStart o.hole s)
  | _ => postTarget (startTarget (setPhase .awaitThread s))

/-- The effects of an accepted RUN_OPEN (R63). -/
def openRun (o : Opening) (s : State) : State := openPhase o (openBlocks o s)

/-- RUN_OPEN (R62, R63). -/
def runOpen (q : RunOpenReq) (s : State) : Answer :=
  match checkOpen q s with
  | .error st => refuse st s
  | .ok o => accepted (openRun o s) (fun t => ofRun t runOpenBody)

def execRunOpen (tag : Byte) (body : List Byte) (s : State) : Out :=
  .next (serve .motion .runOpen tag body (parseRunOpen body) runOpen s)

/-! ### RUN_CONTINUE (R75) -/

/-- The conditions that refuse RUN_CONTINUE (R75, check 2). -/
def continueFault (s : State) (h : Halt) : Bool :=
  s.encoderCond || s.gap.violation || (h.causes.pinch && s.shortIn)

/-- The run enters its return phase (R75). -/
def returnTo (back : Phase) (s : State) : State :=
  match back with
  | .cutting => enterCutting s
  | _ => enterTracking back s

/-- The effects of an accepted RUN_CONTINUE (R59, R69, R75). -/
def continueRun (run : Run) (h : Halt) (s : State) : State :=
  let s1 := { s with
    prog := { s.prog with offPath := 0, dry := 0 }
    gap := { s.gap with presence := false, mismatch := 0 }
    run := some { run with halt := none } }
  settleOnResume (returnTo h.back s1)

/-- RUN_CONTINUE (R75). -/
def runContinue (_ : Unit) (s : State) : Answer :=
  match s.run with
  | none => refuse .state s
  | some run =>
    match run.phase, run.halt with
    | .halted, some h =>
      if continueFault s h then refuse .fault s
      else accepted (continueRun run h s) (fun t => ofRun t (fun r => [Status.ok.code, r.phase.code]))
    | _, _ => refuse .state s

def execRunContinue (tag : Byte) (body : List Byte) (s : State) : Out :=
  .next (serve .motion .runContinue tag body (parseNone body) runContinue s)

/-! ### RUN_CLOSE (R78) -/

/-- Step 1: the posted target is withdrawn (R122). -/
def withdrawTarget (s : State) : State :=
  match s.planner.target with
  | none => s.modPlanner (fun p => { p with kerf := none })
  | some t =>
    let s1 := if t.begun then
        s.modPlanner (fun p => { p with withdrawn := some ⟨t.number, t.place, t.contour, t.point⟩ })
      else s
    postTarget ((stopTarget .withdrawn s1).modPlanner (fun p => { p with kerf := none }))

/-- Step 2: the implied tab, from the frontier to the end of the final stretch (R87). -/
def recordImplied (run : Run) (s : State) : State :=
  match s.contour? run.contour with
  | none => s
  | some c =>
    if run.holdback ∧ s.prog.a < run.limit then
      let t := runStretch run.e0 run.dir c.g.loopLen s.prog.a (run.limit + c.width)
      s.modLive run.contour (fun v => { v with implied := some t })
    else s

/-- Step 3: where the wire is left (R78). -/
def leaveWire (run : Run) (s : State) : State :=
  if run.leftHole then
    s.modPlanner (fun p => { p with
      wire := match p.wire with
        | .hole _ | .kerf _ _ => .kerf run.contour s.pos
        | .unknown => .unknown
        | .none => .none })
  else s

/-- Steps 4 to 6: the last-run record is taken, and every block ends what it does for a run (R38, R61, R113, R165). -/
def endRun (run : Run) (s : State) : State :=
  { s with
    lastRun := some ⟨{ run with warn := false }, s.prog.r, s.prog.a, s.prog.lam, s.prog.dev, run.phase⟩
    run := none
    prog := Progress.idle
    gap := { s.gap with episode := none, settle := none, eligible := false, mismatch := 0 }
    trace := { s.trace with decimation := 0, tally := 0 } }

/-- The effects of an accepted RUN_CLOSE, in the order of R78. -/
def closeRun (run : Run) (s : State) : State :=
  let s1 := leaveWire run (recordImplied run (withdrawTarget (abandonSample s)))
  post (.runPhase run.number .closed) (evaluate run.contour (endRun run s1))

/-- RUN_CLOSE (R78). -/
def runClose (_ : Unit) (s : State) : Answer :=
  match s.run with
  | none => refuse .state s
  | some run =>
    accepted (closeRun run s) (fun _ =>
      Status.ok.code :: (natField 2 run.number ++ [run.phase.code] ++ natField 4 s.prog.a))

def execRunClose (tag : Byte) (body : List Byte) (s : State) : Out :=
  .next (serve .motion .runClose tag body (parseNone body) runClose s)

/-! ### SETTING_CHANGE (R77) -/

/-- The effects of an accepted SETTING_CHANGE: even with settle_on_resume "no" the window is not judged (R102). -/
def changeSetting (run : Run) (n : Nat) (s : State) : State :=
  settleOnResume (ineligible (clearMismatch { s with run := some { run with expected := n } }))

/-- SETTING_CHANGE (R77). -/
def settingChange (n : Nat) (s : State) : Answer :=
  match s.run with
  | none => refuse .state s
  | some run =>
    if 7 < n then refuse .range s
    else accepted (changeSetting run n s) (fun _ => Status.ok.code :: (natField 2 run.number ++ natField 1 n))

def execSettingChange (tag : Byte) (body : List Byte) (s : State) : Out :=
  .next (serve .motion .settingChange tag body (parseByte body) settingChange s)

/-! ### WARN_CLEAR (R72) -/

/-- The remaining distance that WARN_CLEAR uses: as it stood after the run's last completed sample (R72); before its
first one, as it stands (log 40). -/
def usedRemaining (s : State) (run : Run) : Int := run.sampledRem.getD (remaining run s.prog)

/-- The indicator after WARN_CLEAR (R72). -/
def warnCleared (s : State) (run : Run) : Bool :=
  match s.cfg.warnMode with
  | .level => run.warn
  | .latched => run.warn && decide (usedRemaining s run ≤ s.cfg.warnDist)

/-- WARN_CLEAR (R72). -/
def warnClear (_ : Unit) (s : State) : Answer :=
  match s.run with
  | none => refuse .state s
  | some run =>
    ({ s with run := some { run with warn := warnCleared s run } },
      some (Status.ok.code :: (flagField (warnCleared s run) ++ intField 4 (usedRemaining s run))))

def execWarnClear (tag : Byte) (body : List Byte) (s : State) : Out :=
  .next (serve .motion .warnClear tag body (parseNone body) warnClear s)

/-! ### RUN_READ, PLAN_READ (R79, R80) -/

/-- RUN_READ (R79): selector OPEN 0, LAST 1. -/
def runRead (selector : Nat) (s : State) : Answer :=
  match selector with
  | 0 =>
    match s.run with
    | none => refuse .state s
    | some run => reading (runReadOpenBody run s.prog) s
  | 1 =>
    match s.lastRun with
    | none => refuse .state s
    | some l => reading (runReadLastBody l) s
  | _ => refuse .range s

def execRunRead (tag : Byte) (body : List Byte) (s : State) : Out :=
  .next (serve .motion .runRead tag body (parseByte body) runRead s)

/-- PLAN_READ (R80). -/
def planRead (_ : Unit) (s : State) : Answer :=
  match s.run with
  | none => refuse .state s
  | some run => reading (planReadBody run s.planner) s

def execPlanRead (tag : Byte) (body : List Byte) (s : State) : Out :=
  .next (serve .motion .planRead tag body (parseNone body) planRead s)

end Sys2Proof.Machine
end

