-- ==== Sys2Proof/Machine/ThreadCommands.lean ====
section
/-! DEFINITION. The requests of the Thread Link, and BREAK_IN (chapter 7). -/

namespace Sys2Proof.Machine

/-! ### THREAD_BEGIN (R124) -/

/-- The plate position is within a tolerance of a point on both axes (R124). -/
def withinTol (tol : Nat) (p q : Point) : Bool :=
  decide ((p.x - q.x).natAbs ≤ tol) && decide ((p.y - q.y).natAbs ≤ tol)

/-- The checks of THREAD_BEGIN, in their order (R124). -/
def checkThreadBegin (n : Nat) (s : State) : Except Status Target :=
  match s.planner.target with
  | none => .error .state
  | some t =>
    if t.number ≠ n then .error .stale
    else if t.begun then .error .state
    else if s.planner.wire ≠ .none then .error .wire
    else if s.holdIn then .error .fault
    else if s.suspect || !s.available then .error .fault
    else if !withinTol s.cfg.threadTol s.pos t.point then .error .position
    else .ok t

/-- THREAD_BEGIN (R124): its fields are carried whatever the status. -/
def threadBegin (n : Nat) (s : State) : Answer :=
  match checkThreadBegin n s with
  | .error st => (s, some (st.code :: threadBeginFields s))
  | .ok t =>
    (s.modPlanner (fun p => { p with target := some { t with begun := true } }),
      some (Status.ok.code :: threadBeginFields s))

def execThreadBegin (tag : Byte) (body : List Byte) (s : State) : Out :=
  .next (serve .thread .threadBegin tag body (parseByte body) threadBegin s)

/-! ### THREAD_DONE (R125 to R128) -/

/-- A THREAD_DONE that names the withdrawn target (R125, case 2). -/
def doneWithdrawn (ok : Bool) (w : Withdrawn) (s : State) : State :=
  s.modPlanner (fun p => { p with
    wire := if ok then threadedWire w.place w.contour w.point else p.wire
    withdrawn := none })

/-- A threading that succeeded (R126). -/
def doneOk (t : Target) (s : State) : State := resumeRun t (postTarget (stopTarget .done s))

/-- A threading that failed: counted, planned again, one TARGET for both (R127, R128). -/
def doneFail (t : Target) (s : State) : State :=
  postTarget (replan t.purpose (countFailure t.place (stopTarget .failed s)))

/-- Cases 3 to 6 of R125. -/
def donePosted (q : ThreadDoneReq) (s : State) : Answer :=
  match s.planner.target with
  | none => refuse .state s
  | some t =>
    if t.number ≠ q.number then refuse .stale s
    else if !t.begun then refuse .state s
    else if q.result = 0 then
      accepted (doneOk t s) (fun u => ofRun u (fun r => threadDoneOkBody (resumePhase t.place r.kind s) r))
    else accepted (doneFail t s) (fun u => ofRun u (fun r => threadDoneFailBody r u.planner.target))

/-- THREAD_DONE (R125): result OK 0, FAIL 1. -/
def threadDone (q : ThreadDoneReq) (s : State) : Answer :=
  if 1 < q.result then refuse .range s
  else
    match s.planner.withdrawn.filter (fun w => w.number == q.number) with
    | some w => (doneWithdrawn (q.result == 0) w s, some [Status.withdrawn.code])
    | none => donePosted q s

def execThreadDone (tag : Byte) (body : List Byte) (s : State) : Out :=
  .next (serve .thread .threadDone tag body (parseThreadDone body) threadDone s)

/-! ### TARGET_READ, WIRE_CUT (R123, R115) -/

/-- TARGET_READ (R123). -/
def targetRead (_ : Unit) (s : State) : Answer := reading (targetReadBody s.planner) s

def execTargetRead (tag : Byte) (body : List Byte) (s : State) : Out :=
  .next (serve .thread .targetRead tag body (parseNone body) targetRead s)

/-- The phases without a wire through the plate: WIRE_CUT is accepted, a break is only counted (R115, R116). -/
def Phase.unwired : Phase → Bool
  | .awaitThread | .broken | .stranded => true
  | .leadIn | .approach | .cutting | .atLimit | .halted => false

/-- The wire record becomes NONE. -/
def wireNone (s : State) : State := s.modPlanner (fun p => { p with wire := .none })

/-- WIRE_CUT (R115): the wire record is carried whatever the status. -/
def wireCut (_ : Unit) (s : State) : Answer :=
  if s.run.all (fun r => r.phase.unwired) then
    (wireNone s, some (Status.ok.code :: wireField (wireNone s).planner.wire))
  else (s, some (Status.state.code :: wireField s.planner.wire))

def execWireCut (tag : Byte) (body : List Byte) (s : State) : Out :=
  .next (serve .thread .wireCut tag body (parseNone body) wireCut s)

/-! ### BREAK_IN (R116, R117) -/

/-- A break with no run open (R116). -/
def breakNoRun (s : State) : State :=
  post (.brk { run := none, phase := none, path := none, pos := s.pos, r := none, a := none, breaks := none
               wire := some s.planner.wire }) (wireNone s)

/-- A break in AWAIT_THREAD, BROKEN or STRANDED (R116). -/
def breakCounted (run : Run) (s : State) : State :=
  let n := satInc 255 run.breaks
  post (.brk { run := some run.number, phase := some run.phase, path := none, pos := s.pos, r := none, a := none
               breaks := some n, wire := none })
    { wireNone s with run := some { run with breaks := n } }

/-- A capture (R117). -/
def breakCaptured (run : Run) (s : State) : State :=
  let n := satInc 255 run.breaks
  let s1 := abandonSample (wireNone s)
  let brk : BreakRecord := ⟨run.phase, s.prog.path, s.pos, s.prog.r, s.prog.a⟩
  let s2 := setPhase .broken { s1 with run := some { run with halt := none, brk := some brk, breaks := n } }
  let s3 := planResume (s2.modPlanner (fun p => { p with kerf := some 0 }))
  let s4 := if s3.planner.target.isSome then postTarget s3 else s3
  post (.brk { run := some run.number, phase := some run.phase, path := some s.prog.path, pos := s.pos
               r := some s.prog.r, a := some s.prog.a, breaks := some n, wire := none }) s4

/-- BREAK_IN (R116). -/
def breakIn (s : State) : State :=
  if s.resetLow then s
  else
    drive (match s.run with
      | none => breakNoRun s
      | some run => if run.phase.unwired then breakCounted run s else breakCaptured run s)

def execBreakIn (s : State) : Out := .next (breakIn s)

end Sys2Proof.Machine
end

