-- ==== Sys2Proof/Machine/Receive.lean ====
section
/-! DEFINITION. The receiver of a link, byte by byte (R148, R149): what a receive line brings becomes commands at the
end of the queue (log 1). -/

namespace Sys2Proof.Machine

/-- The command that a good frame of a request is. -/
def Req.command (l : Link) (tag : Byte) (body : List Byte) : Req → Instr
  | .attentionRead => .attentionRead l tag body
  | .eventMask => .eventMask l tag body
  | .eventClear => .eventClear l tag body
  | .linkErrors => .linkErrors l tag body
  | .deviceStatus => .deviceStatus l tag body
  | .runOpen => .runOpen tag body
  | .runContinue => .runContinue tag body
  | .runClose => .runClose tag body
  | .settingChange => .settingChange tag body
  | .warnClear => .warnClear tag body
  | .runRead => .runRead tag body
  | .planRead => .planRead tag body
  | .positionRead => .positionRead tag body
  | .zeroSet => .zeroSet tag body
  | .gapRead => .gapRead l tag body
  | .threadBegin => .threadBegin tag body
  | .threadDone => .threadDone tag body
  | .targetRead => .targetRead tag body
  | .wireCut => .wireCut tag body
  | .plateBegin => .plateBegin tag body
  | .contourLoad => .contourLoad tag body
  | .vertexAppend => .vertexAppend tag body
  | .holeLoad => .holeLoad tag body
  | .plateArm => .plateArm tag body
  | .plateDisarm => .plateDisarm tag body
  | .plateClose => .plateClose tag body
  | .plateStatus => .plateStatus tag body
  | .vertexRead => .vertexRead tag body
  | .contourRead => .contourRead tag body
  | .holeRead => .holeRead tag body
  | .catchArm => .catchArm tag body
  | .catchDisarm => .catchDisarm tag body
  | .slugRemoved => .slugRemoved tag body
  | .contourVoid => .contourVoid tag body
  | .holeReset => .holeReset tag body
  | .faultClear => .faultClear tag body
  | .configWrite => .configWrite tag body
  | .configRead => .configRead tag body
  | .traceRead => .traceRead tag body

/-- What a partial frame has come to (R149). -/
inductive Judged where
  | going
  | tooLong
  | checkError (kind tag : Byte)
  | good (kind tag : Byte) (body : List Byte)
  deriving DecidableEq, Repr

/-- Judges a partial frame, SYNC first (R149): complete at LEN + 6 bytes. -/
def judge : List Byte → Judged
  | _sync :: len :: rest =>
    if Config.maxBody < len.toNat then .tooLong
    else
      match rest with
      | kind :: tag :: more =>
        if more.length < len.toNat + 2 then .going
        else if checkBytes (len :: kind :: tag :: more.take len.toNat) = (more.drop len.toNat).take 2 then
          .good kind tag (more.take len.toNat)
        else .checkError kind tag
      | _ => .going
  | _ => .going

/-- The command of a good frame; serve judges it against the request in progress (R150). -/
def frameCommand (l : Link) (kind tag : Byte) (body : List Byte) : Instr :=
  match Req.ofKind l kind with
  | some r => r.command l tag body
  | none => .unknownKind l kind tag

/-- The command of a judged frame, if it has ended. -/
def Judged.command (l : Link) : Judged → Option Instr
  | .going => none
  | .tooLong => some (.frameLengthError l)
  | .checkError kind tag => some (.frameCheckError l kind tag)
  | .good kind tag body => some (frameCommand l kind tag body)

/-- The receiver with a partial frame, and what it has come to. -/
def LinkState.take (k : LinkState) (l : Link) (part : List Byte) : LinkState × Option Instr :=
  match (judge part).command l with
  | none => ({ k with rx := .frame, part := part, gapTime := 0 }, none)
  | some c => ({ k with rx := .hunt, part := [], gapTime := 0 }, some c)

/-- A byte arrives (R148). -/
def LinkState.byte (k : LinkState) (l : Link) (b : Byte) : LinkState × Option Instr :=
  match k.rx with
  | .brk => (k, none)
  | .hunt => if b = 0xC3 then k.take l [b] else (k, none)
  | .frame => k.take l (k.part ++ [b])

/-- What the end of an item of the receive line brings. -/
def LinkState.arrive (k : LinkState) (l : Link) : LineItem → LinkState × Option Instr
  | .byte _ b => k.byte l b
  | .spacing _ => (k, some (.linkReset l))
  | .marking _ => (k, some (.linkBreakEnd l))

/-- Ref counts until an item ends. -/
def LineItem.after : LineItem → Nat
  | .byte n _ | .spacing n | .marking n => n

/-- An item one ref count nearer to its end. -/
def LineItem.nearer : LineItem → LineItem
  | .byte n b => .byte (n - 1) b
  | .spacing n => .spacing (n - 1)
  | .marking n => .marking (n - 1)

/-- The next byte has started: its start bit lies one byte-time before its end (R148). -/
def started : List LineItem → Bool
  | .byte n _ :: _ => decide (n ≤ Config.refsPerByte)
  | _ => false

/-- The receive line, one ref count on. -/
def LinkState.line1 (k : LinkState) (l : Link) : LinkState × Option Instr :=
  match k.line with
  | [] => (k, none)
  | item :: rest =>
    if item.after ≤ 1 then LinkState.arrive { k with line := rest } l item
    else ({ k with line := item.nearer :: rest }, none)

/-- The silence inside a frame, one ref count on (R149): the frame is discarded when it exceeds 20 byte-times. -/
def LinkState.gap1 (k : LinkState) (l : Link) : LinkState × Option Instr :=
  if k.rx = .frame ∧ started k.line = false then
    if Config.gapLimit < k.gapTime + 1 then
      ({ k with rx := .hunt, part := [], gapTime := 0 }, some (.frameGapTimeout l k.part[2]? k.part[3]?))
    else ({ k with gapTime := k.gapTime + 1 }, none)
  else (k, none)

/-- The reply, one ref count on (R151). -/
def LinkState.reply1 (k : LinkState) (l : Link) : LinkState × Option Instr :=
  match k.busy with
  | some ⟨kind, tag, some frame, left⟩ =>
    ({ k with busy := some ⟨kind, tag, some frame, left - 1⟩ }, if left ≤ 1 then some (.replySent l) else none)
  | _ => (k, none)

end Sys2Proof.Machine
end

