-- ==== Sys2Proof/Machine/Tick.lean ====
section
/-! DEFINITION. One ref count (0.1 µs) of the 5120's own timers: a timer that runs out puts its event at the end of the
queue (log 2). -/

namespace Sys2Proof.Machine

/-- Puts an event into the queue, if there is one. -/
def enqueue? (c : Option Instr) (s : State) : State :=
  match c with
  | some i => enqueue i s
  | none => s

/-- One part of a link's ref count. -/
def linkPart (f : LinkState → Link → LinkState × Option Instr) (l : Link) (s : State) : State :=
  enqueue? (f (s.link l) l).2 (s.setLink l (f (s.link l) l).1)

/-- A link's ref count: the reply, the silence, the receive line. -/
def tickLink (l : Link) (s : State) : State :=
  linkPart LinkState.line1 l (linkPart LinkState.gap1 l (linkPart LinkState.reply1 l s))

/-- The interval counter (R99). -/
def tickInterval (s : State) : State := s.modGap (fun g => { g with interval := satInc max16 g.interval })

/-- The window timer (R100). -/
def tickWindow (s : State) : State :=
  enqueue? (if s.gap.windowTimer ≤ 1 then some .windowEnd else none)
    (s.modGap (fun g => { g with windowTimer := g.windowTimer - 1 }))

/-- The settle window (R111). -/
def tickSettle (s : State) : State :=
  match s.gap.settle with
  | none => s
  | some left =>
    enqueue? (if left ≤ 1 then some .settleEnd else none) (s.modGap (fun g => { g with settle := some (left - 1) }))

/-- Ref counts of short_qual (R105) and of pinch_time (R106). -/
def qualTime (cfg : ConfigRecord) : Nat := cfg.shortQual * 100
def pinchTime (cfg : ConfigRecord) : Nat := cfg.pinchTime * 40000

/-- The short episode (R105, R106). The manual gives its elapsed time no end; it stops at 4,294,967,295 ref counts, the
largest that GAP_READ can send (log 41). -/
def tickEpisode (s : State) : State :=
  match s.gap.episode with
  | none => s
  | some e =>
    let t := satInc max32 e.elapsed
    let s1 := s.modGap (fun g => { g with episode := some { e with elapsed := t } })
    let s2 := enqueue? (if t = qualTime s.cfg then some .shortQualify else none) s1
    enqueue? (if t = pinchTime s.cfg then some .pinch else none) s2

/-- The sample timer (R39); at an expiry in a tracking phase the presence is read and cleared (R40, step 1). -/
def tickSample (s : State) : State :=
  match s.prog.timer with
  | none => s
  | some left =>
    if 1 < left then { s with prog := { s.prog with timer := some (left - 1) } }
    else
      let s1 := { s with prog := { s.prog with timer := some (samplePeriod s.cfg) } }
      match s.sampling, sampledRun s with
      | .none, some run =>
        enqueue .progressSample
          { takePresence s1 with sampling := .inProgress run.phase run.kind s.gap.presence }
      | _, _ => s1

/-- The validation in progress, at its bound (R21, log 13). -/
def tickValidation (s : State) : State :=
  match s.plate.validation with
  | none => s
  | some left =>
    enqueue? (if left ≤ 1 then some .validationComplete else none)
      { s with plate := { s.plate with validation := some (left - 1) } }

/-- The self-test (R168); whether the map store reads back is a free value here (log 9). -/
def tickSelfTest (s : State) : State :=
  if s.device ≠ .starting then s
  else if 1 < s.selfTestLeft then { s with selfTestLeft := s.selfTestLeft - 1 }
  else
    enqueue (.selfTestEnd (Config.mapStoreReadsBack (takeFree s).1)) { (takeFree s).2 with selfTestLeft := 0 }

/-- One ref count. While RESET_IN is low every block holds its reset values (R168). -/
def tick (s : State) : State :=
  if s.resetLow then s
  else
    tickLink .cell (tickLink .thread (tickLink .motion
      (tickSelfTest (tickValidation (tickSample (tickEpisode (tickSettle (tickWindow (tickInterval s)))))))))

end Sys2Proof.Machine
end

