-- ==== Sys2Proof/Machine/Dispatch.lean ====
section
/-! DEFINITION. The meaning of every command: one arm per constructor, one direct call each. -/

namespace Sys2Proof.Machine

/-- The effect of a command on everything but the queue. -/
def exec (i : Instr) (s : State) : Host.Outcome State Fault Refusal :=
  match i with
  | .attentionRead link tag body => Sys2Proof.Machine.execAttentionRead link tag body s
  | .eventMask link tag body => Sys2Proof.Machine.execEventMask link tag body s
  | .eventClear link tag body => Sys2Proof.Machine.execEventClear link tag body s
  | .linkErrors link tag body => Sys2Proof.Machine.execLinkErrors link tag body s
  | .deviceStatus link tag body => Sys2Proof.Machine.execDeviceStatus link tag body s
  | .runOpen tag body => Sys2Proof.Machine.execRunOpen tag body s
  | .runContinue tag body => Sys2Proof.Machine.execRunContinue tag body s
  | .runClose tag body => Sys2Proof.Machine.execRunClose tag body s
  | .settingChange tag body => Sys2Proof.Machine.execSettingChange tag body s
  | .warnClear tag body => Sys2Proof.Machine.execWarnClear tag body s
  | .runRead tag body => Sys2Proof.Machine.execRunRead tag body s
  | .planRead tag body => Sys2Proof.Machine.execPlanRead tag body s
  | .positionRead tag body => Sys2Proof.Machine.execPositionRead tag body s
  | .zeroSet tag body => Sys2Proof.Machine.execZeroSet tag body s
  | .gapRead link tag body => Sys2Proof.Machine.execGapRead link tag body s
  | .threadBegin tag body => Sys2Proof.Machine.execThreadBegin tag body s
  | .threadDone tag body => Sys2Proof.Machine.execThreadDone tag body s
  | .targetRead tag body => Sys2Proof.Machine.execTargetRead tag body s
  | .wireCut tag body => Sys2Proof.Machine.execWireCut tag body s
  | .plateBegin tag body => Sys2Proof.Machine.execPlateBegin tag body s
  | .contourLoad tag body => Sys2Proof.Machine.execContourLoad tag body s
  | .vertexAppend tag body => Sys2Proof.Machine.execVertexAppend tag body s
  | .holeLoad tag body => Sys2Proof.Machine.execHoleLoad tag body s
  | .plateArm tag body => Sys2Proof.Machine.execPlateArm tag body s
  | .plateDisarm tag body => Sys2Proof.Machine.execPlateDisarm tag body s
  | .plateClose tag body => Sys2Proof.Machine.execPlateClose tag body s
  | .plateStatus tag body => Sys2Proof.Machine.execPlateStatus tag body s
  | .vertexRead tag body => Sys2Proof.Machine.execVertexRead tag body s
  | .contourRead tag body => Sys2Proof.Machine.execContourRead tag body s
  | .holeRead tag body => Sys2Proof.Machine.execHoleRead tag body s
  | .catchArm tag body => Sys2Proof.Machine.execCatchArm tag body s
  | .catchDisarm tag body => Sys2Proof.Machine.execCatchDisarm tag body s
  | .slugRemoved tag body => Sys2Proof.Machine.execSlugRemoved tag body s
  | .contourVoid tag body => Sys2Proof.Machine.execContourVoid tag body s
  | .holeReset tag body => Sys2Proof.Machine.execHoleReset tag body s
  | .faultClear tag body => Sys2Proof.Machine.execFaultClear tag body s
  | .configWrite tag body => Sys2Proof.Machine.execConfigWrite tag body s
  | .configRead tag body => Sys2Proof.Machine.execConfigRead tag body s
  | .traceRead tag body => Sys2Proof.Machine.execTraceRead tag body s
  | .unknownKind link kind tag => Sys2Proof.Machine.execUnknownKind link kind tag s
  | .frameCheckError link kind tag => Sys2Proof.Machine.execFrameCheckError link kind tag s
  | .frameLengthError link => Sys2Proof.Machine.execFrameLengthError link s
  | .frameGapTimeout link kind tag => Sys2Proof.Machine.execFrameGapTimeout link kind tag s
  | .frameOverrun link kind tag => Sys2Proof.Machine.execFrameOverrun link kind tag s
  | .replySent link => Sys2Proof.Machine.execReplySent link s
  | .linkReset link => Sys2Proof.Machine.execLinkReset link s
  | .linkBreakEnd link => Sys2Proof.Machine.execLinkBreakEnd link s
  | .validationComplete => Sys2Proof.Machine.execValidationComplete s
  | .quadratureStep axis a b => Sys2Proof.Machine.execQuadratureStep axis a b s
  | .lineFaultBegin axis => Sys2Proof.Machine.execLineFaultBegin axis s
  | .lineFaultEnd axis => Sys2Proof.Machine.execLineFaultEnd axis s
  | .indexPulse axis => Sys2Proof.Machine.execIndexPulse axis s
  | .sparkInPulse => Sys2Proof.Machine.execSparkInPulse s
  | .shortInRise => Sys2Proof.Machine.execShortInRise s
  | .shortInFall => Sys2Proof.Machine.execShortInFall s
  | .shortQualify => Sys2Proof.Machine.execShortQualify s
  | .pinch => Sys2Proof.Machine.execPinch s
  | .windowEnd => Sys2Proof.Machine.execWindowEnd s
  | .settleEnd => Sys2Proof.Machine.execSettleEnd s
  | .progressSample => Sys2Proof.Machine.execProgressSample s
  | .breakIn => Sys2Proof.Machine.execBreakIn s
  | .holdInChange level => Sys2Proof.Machine.execHoldInChange level s
  | .deviceReset => Sys2Proof.Machine.execDeviceReset s
  | .resetEnd => Sys2Proof.Machine.execResetEnd s
  | .selfTestEnd readsBack => Sys2Proof.Machine.execSelfTestEnd readsBack s

end Sys2Proof.Machine
end

