-- ==== Sys2Proof/Machine/Step.lean ====
section
/-! DEFINITION. One step: the command at the front of the queue, or, where none waits, one ref count. -/

namespace Sys2Proof.Machine

/-- Takes the command at the front of the queue and runs it on the queue's rest; on an empty queue one ref count
passes (log 2). -/
def step (s : State) : Host.Outcome State Fault Refusal :=
  match s.pending with
  | i :: rest => exec i { s with pending := rest }
  | [] => .next (tick s)

/-- The table gives no row any bits, so no word spells a command and the state stays as it is (log 34). -/
def State.withFetchWord (s : State) (_nbits _w : Nat) : State := s

end Sys2Proof.Machine
end

