-- ==== Sys2Proof/WellFormed.lean ====
section
/-! DEFINITION. Well-formed commands: what the frames and links of chapter 10 can bring. Each check stands alone. -/

namespace Sys2Proof

open Sys2Proof.Machine

/-- The TAG and body of a request; none for an event. -/
def Instr.request? : Instr → Option (Req × Link × Byte × List Byte)
  | .attentionRead l tag body => some (.attentionRead, l, tag, body)
  | .eventMask l tag body => some (.eventMask, l, tag, body)
  | .eventClear l tag body => some (.eventClear, l, tag, body)
  | .linkErrors l tag body => some (.linkErrors, l, tag, body)
  | .deviceStatus l tag body => some (.deviceStatus, l, tag, body)
  | .gapRead l tag body => some (.gapRead, l, tag, body)
  | .runOpen tag body => some (.runOpen, .motion, tag, body)
  | .runContinue tag body => some (.runContinue, .motion, tag, body)
  | .runClose tag body => some (.runClose, .motion, tag, body)
  | .settingChange tag body => some (.settingChange, .motion, tag, body)
  | .warnClear tag body => some (.warnClear, .motion, tag, body)
  | .runRead tag body => some (.runRead, .motion, tag, body)
  | .planRead tag body => some (.planRead, .motion, tag, body)
  | .positionRead tag body => some (.positionRead, .motion, tag, body)
  | .zeroSet tag body => some (.zeroSet, .motion, tag, body)
  | .threadBegin tag body => some (.threadBegin, .thread, tag, body)
  | .threadDone tag body => some (.threadDone, .thread, tag, body)
  | .targetRead tag body => some (.targetRead, .thread, tag, body)
  | .wireCut tag body => some (.wireCut, .thread, tag, body)
  | .plateBegin tag body => some (.plateBegin, .cell, tag, body)
  | .contourLoad tag body => some (.contourLoad, .cell, tag, body)
  | .vertexAppend tag body => some (.vertexAppend, .cell, tag, body)
  | .holeLoad tag body => some (.holeLoad, .cell, tag, body)
  | .plateArm tag body => some (.plateArm, .cell, tag, body)
  | .plateDisarm tag body => some (.plateDisarm, .cell, tag, body)
  | .plateClose tag body => some (.plateClose, .cell, tag, body)
  | .plateStatus tag body => some (.plateStatus, .cell, tag, body)
  | .vertexRead tag body => some (.vertexRead, .cell, tag, body)
  | .contourRead tag body => some (.contourRead, .cell, tag, body)
  | .holeRead tag body => some (.holeRead, .cell, tag, body)
  | .catchArm tag body => some (.catchArm, .cell, tag, body)
  | .catchDisarm tag body => some (.catchDisarm, .cell, tag, body)
  | .slugRemoved tag body => some (.slugRemoved, .cell, tag, body)
  | .contourVoid tag body => some (.contourVoid, .cell, tag, body)
  | .holeReset tag body => some (.holeReset, .cell, tag, body)
  | .faultClear tag body => some (.faultClear, .cell, tag, body)
  | .configWrite tag body => some (.configWrite, .cell, tag, body)
  | .configRead tag body => some (.configRead, .cell, tag, body)
  | .traceRead tag body => some (.traceRead, .cell, tag, body)
  | .unknownKind .. | .frameCheckError .. | .frameLengthError .. | .frameGapTimeout .. | .frameOverrun ..
  | .replySent .. | .linkReset .. | .linkBreakEnd .. | .validationComplete | .quadratureStep .. | .lineFaultBegin ..
  | .lineFaultEnd .. | .indexPulse .. | .sparkInPulse | .shortInRise | .shortInFall | .shortQualify | .pinch
  | .windowEnd | .settleEnd | .progressSample | .breakIn | .holdInChange .. | .deviceReset | .resetEnd
  | .selfTestEnd .. => none

/-- A frame body has at most 240 bytes (Table 10-3). -/
def Instr.bodyFits (i : Instr) : Bool := i.request?.all (fun r => decide (r.2.2.2.length ≤ Config.maxBody))

/-- A request row comes on a link that serves it (Tables 10-10 to 10-13). -/
def Instr.linkServes (i : Instr) : Bool := i.request?.all (fun r => r.1.servedOn r.2.1)

/-- UNKNOWN_KIND has a KIND that names no request served on its link (R150). -/
def Instr.kindUnknown : Instr → Bool
  | .unknownKind l kind _ => (Req.ofKind l kind).isNone
  | _ => true

/-- In a silenced frame TAG has arrived only after KIND (Table 10-3). -/
def Instr.tagAfterKind : Instr → Bool
  | .frameGapTimeout _ kind tag => kind.isSome || tag.isNone
  | _ => true

/-- A well-formed command. -/
def Instr.wf (i : Instr) : Bool := i.bodyFits && i.linkServes && i.kindUnknown && i.tagAfterKind

/-- The length of the body that a request carries (Tables 10-10 to 10-13, 10-15): for the lists of CONTOUR_LOAD,
VERTEX_APPEND and HOLE_LOAD, by the count byte the body itself carries. -/
def Machine.Req.bodyLength (k : Req) (body : List Byte) : Option Nat :=
  match k with
  | .attentionRead | .linkErrors | .deviceStatus | .runContinue | .runClose | .warnClear | .planRead
  | .positionRead | .gapRead | .targetRead | .wireCut | .plateArm | .plateDisarm | .plateClose | .plateStatus
  | .faultClear | .configRead | .traceRead => some 0
  | .settingChange | .runRead | .threadBegin | .contourRead | .holeRead | .catchArm | .catchDisarm | .slugRemoved
  | .contourVoid | .holeReset => some 1
  | .eventMask | .eventClear | .threadDone => some 2
  | .plateBegin | .vertexRead => some 4
  | .runOpen => some 5
  | .zeroSet => some 8
  | .configWrite => some 64
  | .contourLoad => body[4]?.map (fun n => 5 + 12 * n.toNat)
  | .vertexAppend => body[1]?.map (fun n => 2 + 6 * n.toNat)
  | .holeLoad => body[10]?.map (fun n => 11 + 6 * n.toNat)

/-- The body has the length its request carries (R150). -/
def Machine.Req.lengthOk (k : Req) (body : List Byte) : Bool := k.bodyLength body == some body.length

end Sys2Proof
end

