-- ==== Sys2Proof/Safety.lean ====
section
/-! DEFINITION. What the statements speak of: when a link serves a request, the state with its reply, and the
invariants that every step keeps. -/

namespace Sys2Proof.Safety

open Sys2Proof.Machine

/-! ### Requests -/

/-- The link takes a good frame of the request, and the request's block answers it: no reset, the line not held
spacing, no request in progress (R150), and the device state does not answer in the block's place (R169). -/
def Serves (l : Link) (k : Req) (s : State) : Prop :=
  s.receives l = true ∧ (s.link l).busy = none ∧ k.servedOn l = true ∧ deviceBar k s.device = none

/-- The request is the link's request in progress, with a reply of this body (R150, R151). -/
def replied (l : Link) (k : Req) (tag : Byte) (body : List Byte) (s : State) : State :=
  answerWith l (k.code + 0x80) k.code tag body s

/-- The bytes of a receive line one after another, with the commands they bring. -/
def feed (l : Link) : LinkState → List Byte → LinkState × List Instr
  | k, [] => (k, [])
  | k, b :: rest =>
    let now := k.byte l b
    let later := feed l now.1 rest
    (later.1, now.2.toList ++ later.2)

/-! ### Conditions of requests -/

/-- The checks of RUN_OPEN (R62) hold for contour entry c and hole entry h, with the limits that are computed. -/
def OpenAllowed (q : RunOpenReq) (c : Contour) (h : Hole) (kind : RunKind) (dir : Dir) (s : State) : Prop :=
  s.plate.state.live = true ∧ s.run = none ∧
  s.gap.violation = false ∧ s.suspect = false ∧ s.lineFault = false ∧
  q.contour ≤ 63 ∧ s.contour? q.contour = some c ∧ q.hole ≤ 127 ∧ s.hole? q.hole = some h ∧ h.owner = q.contour ∧
  RunKind.ofCode q.kind = some kind ∧ Dir.ofCode q.dir = some dir ∧
  h.lv.state = .opened ∧ h.dirs.allows dir = true ∧ kindAllowed kind c h = true ∧
  (kind = .release → s.catchArmed q.contour = true) ∧ q.setting ≤ 7 ∧
  cutFrom kind h.g.entry dir c <
    (computeLimits kind h.g.entry dir c (s.catchArmed q.contour) s.cfg.permitLead
      (cutFrom kind h.g.entry dir c)).limit

/-- No level condition stands that halts a run on its entry to a phase (R73). -/
def NothingStands (s : State) : Prop := s.encoderCond = false ∧ s.gap.violation = false

/-! ### Validation -/

/-- A declared tab lies on the loop at [ts, te] (R18): both offsets within their segments, and ts below te. -/
def TabLies (c : Contour) (d : DeclTab) (t : Span) : Prop :=
  ∃ n m u v, c.computed.segLen[d.start.seg]? = some n ∧ c.computed.segLen[d.stop.seg]? = some m ∧
    c.computed.segOff[d.start.seg]? = some u ∧ c.computed.segOff[d.stop.seg]? = some v ∧
    d.start.off ≤ n ∧ d.stop.off ≤ m ∧ t.lo = u + d.start.off ∧ t.hi = v + d.stop.off ∧ t.lo < t.hi

/-- Loop segment i with its computed length, vertex n being vertex 0 (R17). -/
def loopSegment (c : Contour) (i : Nat) : Leg :=
  ⟨c.vertices.getD i ⟨0, 0⟩, c.vertices.getD ((i + 1) % c.vertices.length) ⟨0, 0⟩, c.computed.segLen.getD i 0⟩

/-- The entry deviation of a hole's last lead-in vertex on loop segment i: the larger of dev and the overhang (R20). -/
def entryDeviation (c : Contour) (h : Hole) (i : Nat) : Nat :=
  let leg := loopSegment c i
  let q := leg.project h.tip
  max q.dev (max (-q.along) (max 0 (q.along - leg.len))).toNat

/-- Loop segment i is the hole's entry segment (R20): of the segments of length 1 or more it has the least entry
deviation, and the lowest index among equals. -/
def EntrySegment (c : Contour) (h : Hole) (i : Nat) : Prop :=
  3 ≤ c.vertices.length ∧ i < c.vertices.length ∧ 1 ≤ (loopSegment c i).len ∧
    ∀ j, j < c.vertices.length → 1 ≤ (loopSegment c j).len →
      entryDeviation c h i ≤ entryDeviation c h j ∧ (j < i → entryDeviation c h i < entryDeviation c h j)

/-! ### Samples and limits -/

/-- A sample of the open run completes, with the presence it read: one in progress, or expiry and completion in one
where none is in progress (R39, R40, log 16). -/
def Samples (run : Run) (presence : Bool) (s : State) : Prop :=
  s.resetLow = false ∧ s.run = some run ∧ run.phase.tracking = true ∧
    ((s.sampling = .none ∧ presence = s.gap.presence) ∨ s.sampling = .inProgress run.phase run.kind presence)

/-- The presence flag after a sample: the expiry has cleared it, and pulses since an earlier expiry stay (R40). -/
def presenceAfter (s : State) : Bool :=
  match s.sampling with
  | .none => false
  | .inProgress .. | .abandoned => s.gap.presence

/-- The run is halted, TRACK_LOSS among its causes (R49, R55, R73). -/
def TrackLost (t : State) : Prop :=
  ∃ r h, t.run = some r ∧ r.phase = .halted ∧ r.halt = some h ∧ h.causes.trackLoss = true

/-- What the Run Controller does with limits that are computed anew (R68), with CATCH_NEEDED where the holdback flag is
newly set (R93). -/
def LimitsTaken (run : Run) (lim : Limits) (s t : State) : Prop :=
  let tested := testedValue run s.prog
  ∃ r, t.run = some r ∧
    r.limit = lim.limit ∧ r.stop = lim.stop ∧ r.final = lim.final ∧ r.holdback = lim.holdback ∧ r.c = run.c ∧
    r.number = run.number ∧
    r.warn = (run.warn && !decide (((s.cfg.warnDist + s.cfg.warnHyst : Nat) : Int) < lim.stop - tested)) ∧
    (run.phase = .atLimit → tested < lim.stop → NothingStands s →
      r.phase = .cutting ∧ r.halt = run.halt ∧
      t.gap.settle = (if s.cfg.settleOnResume = true ∧ s.cfg.settleTime ≠ 0 then some (s.cfg.settleTime * 10000)
        else s.gap.settle) ∧
      ∀ l, l = .motion ∨ l = .cell → Table.get? (t.link l).raw 0 = some (.runPhase run.number (.phase .cutting))) ∧
    (run.phase ≠ .atLimit ∨ lim.stop ≤ tested →
      r.phase = run.phase ∧
      r.halt = (if run.phase = .halted ∧ tested < lim.stop then
        run.halt.map (fun h => if h.back = .atLimit then { h with back := .cutting } else h) else run.halt)) ∧
    (∀ l, l = .motion ∨ l = .cell → Table.get? (t.link l).raw 8 =
      (if lim.holdback = true ∧ run.holdback = false then some (.catchNeeded run.number run.contour lim.held)
        else Table.get? (s.link l).raw 8))

/-! ### Frames -/

/-- The receivers, error records and masks of the three links stay; requests in progress, pending events and attention
lines may change. -/
def LinksKept (s t : State) : Prop :=
  ∀ l, t.link l = { s.link l with busy := (t.link l).busy, raw := (t.link l).raw, attn := (t.link l).attn }

/-- No reset, no change of the device state, of the lines HOLD_IN and SHORT_IN or of the queue, and the links are
kept. -/
def Kept (s t : State) : Prop :=
  t.resetLow = s.resetLow ∧ t.device = s.device ∧ t.selfTest = s.selfTest ∧ t.selfTestLeft = s.selfTestLeft ∧
    t.holdIn = s.holdIn ∧ t.shortIn = s.shortIn ∧ t.pending = s.pending ∧ LinksKept s t

/-- The two axes and the configuration stay. -/
def SetupKept (s t : State) : Prop := t.cfg = s.cfg ∧ t.axisX = s.axisX ∧ t.axisY = s.axisY

/-- The last-run record and the run number counter stay. -/
def HistoryKept (s t : State) : Prop := t.lastRun = s.lastRun ∧ t.runCounter = s.runCounter

/-! ### Invariants -/

/-- Every output follows its conditions: SPARK_OK (R144), THREAD_OK (R145), the attention lines (R154). -/
def Driven (s : State) : Prop :=
  s.sparkOk = s.sparkCond ∧ s.threadOk = s.threadCond s.sparkCond ∧ ∀ l, (s.link l).attn = (s.link l).attnLevel

/-- Every table has its canonical form: the map's entries and the pending events. -/
def Canonical (s : State) : Prop :=
  s.plate.contours.wf = true ∧ s.plate.holes.wf = true ∧ ∀ l, (s.link l).raw.wf = true

/-- The vertices that the map holds fit the pool (R5). -/
def PoolHolds (s : State) : Prop :=
  s.plate.contours.wf = true ∧ s.plate.holes.wf = true ∧ s.plate.used ≤ Config.poolPlaces

/-- The lists that the manual bounds stay within their bounds, a mask enables routed kinds alone, and the mismatch
counter stays within its limit: catch set (R132), trace FIFO (R165), validation errors (R12), error records (R152),
masks (R156), mismatch counter (R103). -/
def WithinSizes (s : State) : Prop :=
  s.catchSet.length ≤ 4 ∧ s.trace.fifo.length ≤ 64 ∧ s.plate.errors.length ≤ 8 ∧
    s.gap.mismatch ≤ s.cfg.mismatchLimit ∧ (s.run = none → s.gap.mismatch = 0) ∧
    ∀ l, (s.link l).errors.length ≤ 3 ∧ (s.link l).mask &&& routed l = (s.link l).mask

/-- Run, target and sample agree: halt causes are held exactly in HALTED, with a return phase that a halt acts on
(R60, R73); a target is posted exactly in AWAIT_THREAD and BROKEN (R131); a sample in progress is of the phase and kind
of the open run (R39, R40). -/
def RunCoherent (s : State) : Prop :=
  (∀ run, s.run = some run →
    ((run.phase = .halted ↔ run.halt.isSome = true) ∧ ∀ h, run.halt = some h → h.back.tracking = true)) ∧
  (s.planner.target.isSome = true ↔ ∃ run, s.run = some run ∧ (run.phase = .awaitThread ∨ run.phase = .broken)) ∧
  (∀ p k b, s.sampling = .inProgress p k b →
    p.tracking = true ∧ ∃ run, s.run = some run ∧ run.phase = p ∧ run.kind = k)

end Sys2Proof.Safety
end

