-- ==== Sys2Proof/Certificates/Slice0/Obligations.lean ====
section
/-! DEFINITION. The statements: what each command does where it completes, and what every step keeps. -/

open Sys2Proof Sys2Proof.Machine Sys2Proof.Safety

/-! ### The queue, the clock, reset -/

/-- The command at the front of the queue runs on the queue's rest (the model's queue, log 34). -/
def Obligations.StepRunsFrontCommand : Prop :=
  ∀ (c : Instr) (rest : List Instr) (s : State), s.pending = c :: rest → step s = exec c { s with pending := rest }

/-- On an empty queue one ref count passes (the model's choice of step and order, log 2): every timer counts one ref
count, and each that runs out puts its event at the end of the queue: window (R100), settle window (R111), short episode
(R105, R106; its end: log 41), sample (R39, R40), validation (R21, log 13), self-test (R168, log 9), a reply's last byte
(R151). On each link the silence inside a frame counts, and after 20 byte-times of it the frame is discarded (R149); the
first item of the receive line comes one ref count nearer, and at its end a byte goes to the receiver, the line held
spacing resets the link, and its return to marking ends the break (R148, R158; the line as a list: log 1). Nothing else
moves. -/
def Obligations.EmptyQueueStepIsOneRefCount : Prop :=
  ∀ s : State, s.pending = [] → ∃ t, step s = .next t ∧
    (s.resetLow = true → t = s) ∧
    (s.resetLow = false →
      let due : Bool := s.prog.timer.any (fun n => decide (n ≤ 1))
      let starts : Bool := due && decide (s.sampling = .none) && s.run.any (fun r => r.phase.tracking)
      let lasted (n : Nat) : Bool := s.gap.episode.any (fun e => decide (min 4294967295 (e.elapsed + 1) = n))
      let when (b : Bool) (c : Instr) : List Instr := if b then [c] else []
      let silent (l : Link) : Bool := decide ((s.link l).rx = .frame) && !started (s.link l).line
      let timedOut (l : Link) : Bool := silent l && decide (500 ≤ (s.link l).gapTime)
      let heard (l : Link) : LinkState :=
        if timedOut l then { s.link l with rx := .hunt, part := [], gapTime := 0 }
        else if silent l then { s.link l with gapTime := (s.link l).gapTime + 1 }
        else s.link l
      let received (l : Link) : LinkState × Option Instr :=
        match (s.link l).line with
        | [] => (heard l, none)
        | .byte n b :: rest =>
          if n ≤ 1 then LinkState.byte { heard l with line := rest } l b
          else ({ heard l with line := .byte (n - 1) b :: rest }, none)
        | .spacing n :: rest =>
          if n ≤ 1 then ({ heard l with line := rest }, some (.linkReset l))
          else ({ heard l with line := .spacing (n - 1) :: rest }, none)
        | .marking n :: rest =>
          if n ≤ 1 then ({ heard l with line := rest }, some (.linkBreakEnd l))
          else ({ heard l with line := .marking (n - 1) :: rest }, none)
      t.gap = { s.gap with
        interval := min 65535 (s.gap.interval + 1)
        windowTimer := s.gap.windowTimer - 1
        settle := s.gap.settle.map (fun n => n - 1)
        episode := s.gap.episode.map (fun e => { e with elapsed := min 4294967295 (e.elapsed + 1) })
        presence := if starts then false else s.gap.presence } ∧
      t.prog = { s.prog with
        timer := s.prog.timer.map (fun n => if 1 < n then n - 1 else s.cfg.samplePeriod * 200) } ∧
      (starts = true → ∃ run, s.run = some run ∧ t.sampling = .inProgress run.phase run.kind s.gap.presence) ∧
      (starts = false → t.sampling = s.sampling) ∧
      t.plate = { s.plate with validation := s.plate.validation.map (fun n => n - 1) } ∧
      t.selfTestLeft = (if s.device = .starting then s.selfTestLeft - 1 else s.selfTestLeft) ∧
      (∀ l, t.link l = { (received l).1 with
        busy := (s.link l).busy.map (fun b => if b.reply.isSome then { b with left := b.left - 1 } else b) }) ∧
      ∃ tested : List Instr,
        t.pending =
          when (decide (s.gap.windowTimer ≤ 1)) .windowEnd ++
          when (s.gap.settle.any (fun n => decide (n ≤ 1))) .settleEnd ++
          when (lasted (s.cfg.shortQual * 100)) .shortQualify ++ when (lasted (s.cfg.pinchTime * 40000)) .pinch ++
          when starts .progressSample ++
          when (s.plate.validation.any (fun n => decide (n ≤ 1))) .validationComplete ++ tested ++
          [Link.motion, .thread, .cell].flatMap (fun l =>
            when ((s.link l).busy.any (fun b => b.reply.isSome && decide (b.left ≤ 1))) (.replySent l) ++
              when (timedOut l) (.frameGapTimeout l (s.link l).part[2]? (s.link l).part[3]?) ++
              (received l).2.toList) ∧
        (s.device = .starting ∧ s.selfTestLeft ≤ 1 → ∃ b, tested = [.selfTestEnd b]) ∧
        (¬ (s.device = .starting ∧ s.selfTestLeft ≤ 1) → tested = [])) ∧
    t.cfg = s.cfg ∧ t.axisX = s.axisX ∧ t.axisY = s.axisY ∧ t.device = s.device ∧ t.selfTest = s.selfTest ∧
    t.run = s.run ∧ t.lastRun = s.lastRun ∧ t.runCounter = s.runCounter ∧ t.planner = s.planner ∧
    t.catchSet = s.catchSet ∧ t.trace = s.trace ∧ t.resetLow = s.resetLow ∧
    t.sparkOk = s.sparkOk ∧ t.threadOk = s.threadOk ∧ t.holdIn = s.holdIn ∧ t.shortIn = s.shortIn ∧
    ∀ l, (t.link l).errors = (s.link l).errors ∧ (t.link l).mask = (s.link l).mask ∧
      (t.link l).raw = (s.link l).raw ∧ (t.link l).attn = (s.link l).attn

/-- What DEVICE_RESET leaves in every block, as the chapters' tables give it, with the model's own companions of it: the
last valid levels of a pair (log 8), a receiver's partial frame, silence and line (log 1, 4), the target that last
stopped being posted (log 21). The device is under reset from then on; its device state and the time of its self-test
until RESET_END are the model's choice (log 3). SHORT_IN (log 4), the queue and the counter of free values stay. -/
def Obligations.DeviceResetLeavesSpecValues : Prop :=
  ∀ s : State, ∃ t, exec .deviceReset s = .next t ∧
    t.plate.state = .empty ∧ t.plate.ident = none ∧ t.plate.contours = [] ∧ t.plate.holes = [] ∧
    t.plate.errors = [] ∧ t.plate.more = false ∧ t.plate.free = 4096 ∧ t.plate.validation = none ∧
    (∀ a, (t.axis a).count = 0 ∧ (t.axis a).quad = none ∧ (t.axis a).lastA = none ∧ (t.axis a).lastB = none ∧
      (t.axis a).zero = 0 ∧ (t.axis a).index = none ∧
      (t.axis a).fault = false ∧ (t.axis a).skip = false ∧ (t.axis a).zeroMark = false ∧ (t.axis a).suspect = true) ∧
    t.prog.timer = none ∧ t.prog.path = .none ∧ t.prog.r = 0 ∧ t.prog.a = 0 ∧ t.prog.sOld = none ∧
    t.prog.seg = 0 ∧ t.prog.along = 0 ∧ t.prog.dev = 0 ∧ t.prog.lam = 0 ∧
    t.prog.offPath = 0 ∧ t.prog.dry = 0 ∧ t.sampling = .none ∧
    t.run = none ∧ t.lastRun = none ∧ t.runCounter = 0 ∧
    t.gap.interval = 65535 ∧ t.gap.n = 0 ∧ t.gap.m = 0 ∧ t.gap.sum = 0 ∧ t.gap.lastWindow = none ∧
    t.gap.windowTimer = 10000 ∧ t.gap.eligible = false ∧ t.gap.shortSince = false ∧
    t.gap.ident = none ∧ t.gap.lastMean = none ∧ t.gap.mismatch = 0 ∧ t.gap.presence = false ∧
    t.gap.pulseTotal = 0 ∧ t.gap.episode = none ∧ t.gap.stray = 0 ∧ t.gap.violation = false ∧ t.gap.settle = none ∧
    t.planner.wire = .unknown ∧ t.planner.target = none ∧ t.planner.counter = 0 ∧ t.planner.withdrawn = none ∧
    t.planner.kerf = none ∧ t.planner.lastStopped = none ∧ t.catchSet = [] ∧
    t.sparkOk = false ∧ t.threadOk = false ∧ t.holdIn = false ∧
    t.trace.fifo = [] ∧ t.trace.decimation = 0 ∧ t.trace.tally = 0 ∧ t.trace.dropped = 0 ∧
    t.cfg = ConfigRecord.reset ∧
    t.resetLow = true ∧ t.device = .starting ∧ t.selfTest = .running ∧ t.selfTestLeft = 400000 ∧
    t.shortIn = s.shortIn ∧ t.pending = s.pending ∧ t.freeCount = s.freeCount ∧
    (∀ l, (t.link l).rx = .hunt ∧ (t.link l).part = [] ∧ (t.link l).gapTime = 0 ∧ (t.link l).line = [] ∧
      (t.link l).busy = none ∧ (t.link l).errors = [] ∧ (t.link l).mask = routed l ∧
      (t.link l).raw = [] ∧ (t.link l).attn = false)

/-- When the reset ends the device is STARTING and the self-test runs (R168); the self-test's end makes it READY where
every place reads back, FAILED with MAP_STORE otherwise. A taken edge of HOLD_IN posts INHIBIT with the permits'
levels after it (R146). -/
def Obligations.ResetEndSelfTestAndHoldComplete : Prop :=
  (∀ s : State, s.resetLow = true → exec .resetEnd s =
    .next { s with resetLow := false, device := .starting, selfTest := .running, selfTestLeft := 400000 }) ∧
  (∀ s : State, s.resetLow = false → s.device = .starting →
    exec (.selfTestEnd true) s = .next (drive { s with device := .ready, selfTest := .pass, selfTestLeft := 0 }) ∧
    exec (.selfTestEnd false) s =
      .next (drive { s with device := .failed, selfTest := .mapStore, selfTestLeft := 0 })) ∧
  (∀ (level : Bool) (s : State), s.resetLow = false → s.holdIn = !level →
    ∃ t, exec (.holdInChange level) s = .next t ∧ t.holdIn = level ∧
      t.sparkOk = ({ s with holdIn := level } : State).sparkCond ∧
      t.threadOk = ({ s with holdIn := level } : State).threadCond t.sparkOk ∧
      (level = true → t.sparkOk = false ∧ t.threadOk = false) ∧
      (∀ l, Table.get? (t.link l).raw 11 = some (.inhibit level t.sparkOk t.threadOk) ∧
        ∀ b, b ≠ 11 → Table.get? (t.link l).raw b = Table.get? (s.link l).raw b) ∧
      t.run = s.run ∧ t.planner = s.planner ∧ t.prog = s.prog ∧ t.plate = s.plate ∧ t.catchSet = s.catchSet ∧
      t.gap = { s.gap with stray := t.gap.stray } ∧ t.trace = s.trace ∧ SetupKept s t ∧ HistoryKept s t ∧
      Kept { s with holdIn := level } t)

/-! ### Invariants -/

/-- The model's invariants hold right after reset. -/
def Obligations.InvariantsHoldAtReset : Prop :=
  Driven State.reset ∧ Canonical State.reset ∧ PoolHolds State.reset ∧ WithinSizes State.reset ∧ RunCoherent State.reset

/-- Every step keeps the permits and the attention lines at the levels their conditions give (R144, R145, R154). -/
def Obligations.EveryStepDrivesOutputs : Prop := ∀ s t : State, Driven s → step s = .next t → Driven t

/-- Every step keeps the canonical form of the map's tables and of the pending events. -/
def Obligations.EveryStepKeepsTablesCanonical : Prop := ∀ s t : State, Canonical s → step s = .next t → Canonical t

/-- No step makes the map hold more vertices than the pool has places (R5). -/
def Obligations.VertexPoolNeverOverflows : Prop := ∀ s t : State, PoolHolds s → step s = .next t → PoolHolds t

/-- No step makes a bounded list too long or a mask name a kind that is not routed (R12, R132, R152, R156, R165), or the
mismatch counter pass its limit (R103, log 39). -/
def Obligations.EveryStepKeepsListBounds : Prop := ∀ s t : State, WithinSizes s → step s = .next t → WithinSizes t

/-- A target is posted exactly while the open run is in AWAIT_THREAD or BROKEN (R121); halt causes, return phase and a
sample in progress agree with the run's phase (R60, R73, R40). -/
def Obligations.EveryStepKeepsRunCoherent : Prop := ∀ s t : State, RunCoherent s → step s = .next t → RunCoherent t

/-! ### Bytes -/

/-- The body bytes of RUN_OPEN, ZERO_SET, THREAD_DONE, VERTEX_READ, CONTOUR_LOAD, VERTEX_APPEND and HOLE_LOAD read back
as the fields they were written from, at every value the layout admits (Tables 10-7, 10-8, 10-15). Whatever the 64 bytes
of a CONFIG_WRITE are, the record they give is written as 64 bytes that give the same record again (R162, R164; codes:
log 37): no bit of the record is lost. -/
def Obligations.RequestBodiesAndConfigReadBack : Prop :=
  (∀ q : RunOpenReq, q.contour < 256 → q.hole < 256 → q.kind < 256 → q.dir < 256 → q.setting < 256 →
    parseRunOpen q.body = some q) ∧
  (∀ q : ZeroSetReq, parseZeroSet q.body = some q) ∧
  (∀ q : ThreadDoneReq, q.number < 256 → q.result < 256 → parseThreadDone q.body = some q) ∧
  (∀ q : VertexReadReq, q.contour < 256 → q.first < 65536 → q.count < 256 → parseVertexRead q.body = some q) ∧
  (∀ q : ContourLoadReq, q.index < 256 → q.cls < 256 → q.width < 65536 → q.tabs.length < 256 →
    (∀ t ∈ q.tabs, t.start.seg < 65536 ∧ t.start.off < 4294967296 ∧ t.stop.seg < 65536 ∧ t.stop.off < 4294967296) →
    parseContourLoad q.body = some q) ∧
  (∀ q : VertexAppendReq, q.contour < 256 → q.points.length < 256 →
    (∀ p ∈ q.points, -8388608 ≤ p.x ∧ p.x ≤ 8388607 ∧ -8388608 ≤ p.y ∧ p.y ≤ 8388607) →
    parseVertexAppend q.body = some q) ∧
  (∀ q : HoleLoadReq, q.index < 256 → q.owner < 256 → q.loc < 256 → q.dirs < 256 → q.leadIn.length < 256 →
    -8388608 ≤ q.centre.x → q.centre.x ≤ 8388607 → -8388608 ≤ q.centre.y → q.centre.y ≤ 8388607 →
    (∀ p ∈ q.leadIn, -8388608 ≤ p.x ∧ p.x ≤ 8388607 ∧ -8388608 ≤ p.y ∧ p.y ≤ 8388607) →
    parseHoleLoad q.body = some q) ∧
  (∀ (body : List Byte) (c : ConfigRecord), parseConfig body = some c → parseConfig (configFields c) = some c)

/-- The receiver, byte by byte (R148, R149). A frame brings exactly its command, at its last byte (R150), and its bytes
until then are held. Another CHECK brings FRAME_CHECK_ERROR with the frame's KIND and TAG, a LEN above 240
FRAME_LENGTH_ERROR at once, and the receiver hunts. A hunting receiver passes over every byte but SYNC; a line held
spacing receives none. That such an event is a command at the end of the queue is the model's form (log 1). -/
def Obligations.FramesAreReceivedAsSentOrDiscarded : Prop :=
  (∀ (l : Link) (k : LinkState) (kind tag : Byte) (body : List Byte), k.rx = .hunt → body.length ≤ 240 →
    let frame := frameOf kind tag body
    feed l k frame = ({ k with rx := .hunt, part := [], gapTime := 0 }, [frameCommand l kind tag body]) ∧
    (∀ n, 0 < n → n < frame.length →
      feed l k (frame.take n) = ({ k with rx := .frame, part := frame.take n, gapTime := 0 }, [])) ∧
    (∀ sent c d x y, frame = sent ++ [c, d] → ¬ (x = c ∧ y = d) →
      feed l k (sent ++ [x, y]) =
        ({ k with rx := .hunt, part := [], gapTime := 0 }, [.frameCheckError l kind tag]))) ∧
  (∀ (l : Link) (k : LinkState) (len : Byte), k.rx = .hunt → 240 < len.toNat →
    feed l k [0xC3, len] = ({ k with rx := .hunt, part := [], gapTime := 0 }, [.frameLengthError l])) ∧
  (∀ (l : Link) (k : LinkState) (b : Byte), k.rx = .hunt → b ≠ 0xC3 → feed l k [b] = (k, [])) ∧
  (∀ (l : Link) (k : LinkState) (bytes : List Byte), k.rx = .brk → feed l k bytes = (k, []))

/-- A KIND names exactly the request of its code, on the links that serve it (Tables 10-10 to 10-13), and every event's
detail has the size of Table 10-2 (forms: log 20, 21, 26). -/
def Obligations.KindCodesAndDetailSizes : Prop :=
  (∀ (l : Link) (k r : Req), Req.ofKind l k.code = some r ↔ (r = k ∧ k.servedOn l = true)) ∧
  (∀ e : Event, e.detail.length = (match e with
    | .runPhase .. => 3
    | .warn .. => 6
    | .atLimit .. => 10
    | .brk _ => 27
    | .target .. => 14
    | .stranded .. => 5
    | .halt .. => 4
    | .contourState changed => 1 + 2 * changed.length
    | .catchNeeded .. => 7
    | .encoder .. => 4
    | .violation .. => 6
    | .inhibit .. => 1
    | .plateState .. => 6
    | .traceLevel _ => 1
    | .traceOverflow _ => 1))

/-! ### Every request -/

/-- While a request is in progress, a good frame of any request is discarded: an OVERRUN entry is all it leaves (R150,
R152). Otherwise a body of a length other than its request's is answered RANGE (R150), and in STARTING and FAILED every
request of the right length but DEVICE_STATUS is answered STARTING or FAULT (R169). Each changes nothing but the request
in progress (fields of a refusal: log 28). -/
def Obligations.RequestsAnsweredBeforeTheBlocks : Prop :=
  ∀ (l : Link) (k : Req) (tag : Byte) (body : List Byte) (s : State), k.servedOn l = true → s.receives l = true →
    ((s.link l).busy.isSome = true →
      exec (k.command l tag body) s = .next (recordError l .overrun (some k.code) (some tag) s)) ∧
    ((s.link l).busy = none → k.lengthOk body = false →
      exec (k.command l tag body) s = .next (replied l k tag (refusalBody k s body .range) s)) ∧
    ((s.link l).busy = none → k.lengthOk body = true → k ≠ .deviceStatus → s.device = .starting →
      exec (k.command l tag body) s = .next (replied l k tag (refusalBody k s body .starting) s)) ∧
    ((s.link l).busy = none → k.lengthOk body = true → k ≠ .deviceStatus → s.device = .failed →
      exec (k.command l tag body) s = .next (replied l k tag (refusalBody k s body .fault) s))

/-! ### Links and frames (chapter 10) -/

/-- ATTENTION_READ reports the raw set, the masked set and every raw kind's detail, and clears the masked kinds
(R155). LINK_ERRORS reports the error record and empties it (R152). -/
def Obligations.AttentionReadAndLinkErrorsReportAndClear : Prop :=
  (∀ (l : Link) (tag : Byte) (s : State), Serves l .attentionRead s →
    ∃ t, exec (.attentionRead l tag []) s = .next (replied l .attentionRead tag
        (0 :: (leBytes 2 (rawBits (s.link l).raw).toNat ++ leBytes 2 (rawBits (s.link l).raw &&& (s.link l).mask).toNat ++
          (s.link l).raw.flatMap (fun e => e.2.detail))) t) ∧
      t = drive (s.modLink l (fun k => { k with raw := k.raw.filter (fun e => !(s.link l).masked.getLsbD e.1) }))) ∧
  (∀ (l : Link) (tag : Byte) (s : State), Serves l .linkErrors s →
    exec (.linkErrors l tag []) s = .next (replied l .linkErrors tag
      (0 :: listField (fun e => [e.code.code, (if e.kind.isSome then 1 else 0) + (if e.tag.isSome then 2 else 0),
        e.kind.getD 0xFF, e.tag.getD 0xFF]) (s.link l).errors)
      (s.modLink l (fun k => { k with errors := [] }))))

/-- EVENT_MASK: the mask becomes the carried set restricted to the routed kinds, no raw flag and no detail changes, the
line follows, a disabled kind goes on taking postings, and device reset and link reset enable every routed kind (R156).
EVENT_CLEAR: the named flags and details are cleared, masked in or not (R157). -/
def Obligations.EventMaskAndEventClear : Prop :=
  (∀ (l : Link) (tag a b : Byte) (s : State), Serves l .eventMask s →
    ∃ set : EventSet, set.toNat = a.toNat + 256 * b.toNat ∧
      exec (.eventMask l tag [a, b]) s = .next (replied l .eventMask tag (0 :: leBytes 2 (set &&& routed l).toNat)
        (drive (s.modLink l (fun k => { k with mask := set &&& routed l }))))) ∧
  (∀ (l : Link) (set : EventSet) (e : Event) (s : State),
    ((post e (s.modLink l (fun k => { k with mask := set }))).link l).raw = ((post e s).link l).raw) ∧
  (∀ (l : Link) (s : State), ∃ t, exec .deviceReset s = .next t ∧ (t.link l).mask = routed l) ∧
  (∀ (l : Link) (s : State), s.resetLow = false → ∃ t, exec (.linkReset l) s = .next t ∧ (t.link l).mask = routed l) ∧
  (∀ (l : Link) (tag a b : Byte) (s : State), Serves l .eventClear s →
    ∃ (set : EventSet) (t : State), set.toNat = a.toNat + 256 * b.toNat ∧
      t = drive (s.modLink l (fun k => { k with raw := k.raw.filter (fun e => !set.getLsbD e.1) })) ∧
      exec (.eventClear l tag [a, b]) s =
        .next (replied l .eventClear tag (0 :: leBytes 2 (rawBits (t.link l).raw).toNat) t))

/-- A posted event sets its kind's flag with its detail on each link that Table 10-2 routes it to, and touches nothing
else; CONTOUR_STATE merges its entry into the set that the link holds (R153, R140). -/
def Obligations.PostingFollowsTheRouting : Prop :=
  ∀ (e : Event) (s : State) (l : Link),
    (post e s).link l = { s.link l with raw := ((post e s).link l).raw } ∧
    (∀ b, b ≠ e.bit → Table.get? ((post e s).link l).raw b = Table.get? (s.link l).raw b) ∧
    ((routed l).getLsbD e.bit = false → (post e s).link l = s.link l) ∧
    ((routed l).getLsbD e.bit = true → (∀ m, e ≠ .contourState m) →
      Table.get? ((post e s).link l).raw e.bit = some e) ∧
    (∀ i r, e = .contourState [(i, r)] → (routed l).getLsbD e.bit = true →
      ∃ m, Table.get? ((post e s).link l).raw 7 = some (.contourState m) ∧ Table.get? m i = some r ∧
        ∀ h, Table.get? (s.link l).raw 7 = some (.contourState h) → ∀ j, j ≠ i → Table.get? m j = Table.get? h j)

/-- Reads are answered in every state with what stands, and change nothing but the request in progress: DEVICE_STATUS
(R159, log 30), RUN_READ (R79, Table 10-14), PLAN_READ (R80, log 31, 43), GAP_READ (R112, log 11, 27), PLATE_STATUS
(R22, log 25, 26), VERTEX_READ (R23, log 24), CONTOUR_READ (R141, log 43), HOLE_READ (R142, log 43). The fields take the
forms of R160. RUN_READ (another selector: log 38), PLAN_READ, VERTEX_READ, CONTOUR_READ and HOLE_READ are refused as
their rules say, by the first check that fails. -/
def Obligations.ReadsAnswerAndChangeNothing : Prop :=
  let brk (b : Option BreakRecord) : List Byte := match b with
    | some r => 1 :: ([r.phase.code, r.path.code] ++ pointField r.pos ++ intField 4 r.r ++ natField 4 r.a)
    | none => List.replicate 17 0
  let plan (p : Option Plan) : List Byte := match p with
    | some q => 1 :: ([q.place.code, q.place.holeByte] ++ optNat 4 q.backoff ++ pointField q.target ++
        natField 4 q.resume ++ pointField q.resumePoint ++ [if q.cutsLeadIn then 1 else 0])
    | none => List.replicate 24 0
  let record (selector : Byte) (run : Run) (phase : Phase) (r : Int) (a lam dev : Nat) : List Byte :=
    [0, selector] ++ natField 2 run.number ++ natField 1 run.contour ++ natField 1 run.hole ++ natField 4 run.e0 ++
      [run.kind.code, run.dir.code] ++ natField 1 run.expected ++ [phase.code] ++
      natField 4 run.c ++ natField 4 run.limit ++ intField 4 run.stop ++
      [(if run.final then 1 else 0) + (if run.holdback then 2 else 0) + (if run.leftHole then 4 else 0) +
        (if run.warn then 8 else 0)] ++
      intField 4 r ++ natField 4 a ++ natField 4 lam ++ natField 4 dev ++
      (match run.halt with
        | some h => [h.causes.code, h.back.code]
        | none => [0, 0xFF]) ++
      brk run.brk ++ plan run.plan ++ natField 1 run.breaks ++ natField 4 run.discharges ++ natField 2 run.shorts
  (∀ (l : Link) (tag : Byte) (s : State), s.receives l = true → (s.link l).busy = none →
    exec (.deviceStatus l tag []) s = .next (replied l .deviceStatus tag
      ([0, s.device.code, s.selfTest.code, s.plate.state.code] ++
        (match s.run with
          | some run => natField 2 run.number ++ [run.phase.code]
          | none => [0, 0, 0xFF]) ++
        wireField s.planner.wire ++
        [if s.holdIn then 1 else 0, if s.sparkOk then 1 else 0, if s.threadOk then 1 else 0,
          if s.gap.violation then 1 else 0, if s.suspect then 1 else 0, if s.available then 1 else 0] ++
        natField 1 s.catchSet.length ++ s.catchSet.flatMap (natField 1)) s)) ∧
  (∀ (tag : Byte) (s : State) (run : Run), Serves .motion .runRead s → s.run = some run →
    exec (.runRead tag [0]) s = .next (replied .motion .runRead tag
      (record 0 run run.phase s.prog.r s.prog.a s.prog.lam s.prog.dev ++
        [s.prog.path.code] ++ natField 2 s.prog.seg ++ natField 1 s.prog.offPath ++ natField 4 s.prog.dry ++
        intField 4 (run.stop - (if run.kind = .skim then s.prog.r else s.prog.a))) s)) ∧
  (∀ (tag : Byte) (s : State) (r : LastRun), Serves .motion .runRead s → s.lastRun = some r →
    exec (.runRead tag [1]) s = .next (replied .motion .runRead tag
      (record 1 r.run r.phaseAtClose r.r r.a r.lam r.dev) s)) ∧
  (∀ (tag : Byte) (s : State) (run : Run), Serves .motion .planRead s → s.run = some run →
    exec (.planRead tag []) s = .next (replied .motion .planRead tag
      (0 :: (natField 2 run.number ++ [run.phase.code] ++ brk run.brk ++ plan run.plan ++
        targetField s.planner.target ++ optNat 1 s.planner.kerf)) s)) ∧
  (∀ (l : Link) (tag : Byte) (s : State), Serves l .gapRead s →
    exec (.gapRead l tag []) s = .next (replied l .gapRead tag
      ([0, match s.gap.ident with
          | some (.setting i) => BitVec.ofNat 8 i
          | some .unknown => 8
          | none => 0xFF] ++ optNat 2 s.gap.lastMean ++
        (match s.gap.lastWindow with
          | some w => 1 :: (natField 2 w.n ++ natField 2 w.m ++ natField 4 w.sum ++ [if w.eligible then 1 else 0])
          | none => List.replicate 10 0) ++
        natField 1 s.gap.mismatch ++ optNat 1 (s.run.map (fun r => r.expected)) ++
        [if s.gap.presence then 1 else 0] ++ natField 4 s.gap.pulseTotal ++ [if s.shortIn then 1 else 0] ++
        (match s.gap.episode with
          | some e => 1 :: (natField 4 e.elapsed ++ [if e.qualified then 1 else 0, if e.pinched then 1 else 0])
          | none => List.replicate 7 0) ++
        natField 2 s.gap.stray ++ [if s.gap.violation then 1 else 0] ++
        (match s.gap.settle with
          | some left => 1 :: natField 1 (settleMs left)
          | none => [0, 0xFF])) s)) ∧
  (∀ (tag : Byte) (s : State), Serves .cell .plateStatus s →
    exec (.plateStatus tag []) s = .next (replied .cell .plateStatus tag
      ([0, s.plate.state.code] ++ optNat 4 s.plate.ident ++ natField 1 s.plate.contours.length ++
        natField 1 s.plate.holes.length ++ natField 2 (4096 - s.plate.used) ++
        natField 1 s.plate.errors.length ++ [if s.plate.more then 1 else 0] ++
        s.plate.errors.flatMap (fun e =>
          e.code.code :: (optNat 1 e.contour ++ optNat 1 e.hole ++ optNat 2 e.item ++ optNat 1 e.item2))) s)) ∧
  (∀ (tag : Byte) (q : VertexReadReq) (c : Contour) (s : State), Serves .cell .vertexRead s →
    q.contour ≤ 63 → 1 ≤ q.count → q.count ≤ 32 → s.plate.state ≠ .empty → s.contour? q.contour = some c →
    q.first < c.vertices.length → q.first < 65536 →
    let asked := if s.plate.state.live then min 16 q.count else q.count
    let points := (c.vertices.drop q.first).take asked
    let spans := ((c.g.segLen.zip c.g.segOff).drop q.first).take asked
    exec (.vertexRead tag q.body) s = .next (replied .cell .vertexRead tag
      (0 :: (natField 2 c.vertices.length ++ (natField 1 points.length ++ points.flatMap pointField) ++
        (if s.plate.state.live then
          natField 1 spans.length ++ spans.flatMap (fun e => natField 4 e.1 ++ natField 4 e.2) ++ natField 4 c.g.loopLen
        else []))) s)) ∧
  (∀ (tag b : Byte) (c : Contour) (s : State), Serves .cell .contourRead s → s.plate.state ≠ .empty → b.toNat ≤ 63 →
    s.contour? b.toNat = some c →
    let answers := c.answers s.cfg.permitLead
    let stretches := uncovered c.g.loopLen c.lv.coverage
    let bit (x : Bool) : Byte := if x then 1 else 0
    let head := [0, c.cls.code] ++ natField 2 c.width ++ natField 2 c.vertices.length
    exec (.contourRead tag [b]) s = .next (replied .cell .contourRead tag
      (if s.plate.state.live then
        head ++ natField 4 c.g.loopLen ++ [c.lv.state.code] ++
          [bit c.lv.tilt, bit (s.catchSet.contains b.toNat), bit c.lv.removed, bit c.lv.voided] ++
          (natField 1 c.lv.coverage.length ++ c.lv.coverage.flatMap (fun x => natField 4 x.lo ++ natField 4 x.hi)) ++
          (natField 1 stretches.length ++ stretches.flatMap (fun x => natField 4 x.first ++ natField 4 x.len)) ++
          (natField 1 c.g.tabs.length ++ c.g.tabs.flatMap (fun x => natField 4 x.lo ++ natField 4 x.hi)) ++
          (match c.lv.implied with
            | some x => 1 :: (natField 4 x.first ++ natField 4 x.len)
            | none => List.replicate 9 0) ++
          [bit answers.allRemnants] ++ optNat 4 answers.shortest ++ natField 4 c.lv.discharges ++
          (natField 1 (s.plate.holesOf b.toNat).length ++ (s.plate.holesOf b.toNat).flatMap (natField 1)) ++
          (match s.run with
            | some run => if run.contour = b.toNat then 1 :: natField 2 run.number else [0, 0, 0]
            | none => [0, 0, 0])
      else
        head ++ (natField 1 c.tabs.length ++ c.tabs.flatMap (fun x =>
          natField 2 x.start.seg ++ natField 4 x.start.off ++ natField 2 x.stop.seg ++ natField 4 x.stop.off))) s)) ∧
  (∀ (tag b : Byte) (h : Hole) (s : State), Serves .cell .holeRead s → s.plate.state ≠ .empty → b.toNat ≤ 127 →
    s.hole? b.toNat = some h →
    exec (.holeRead tag [b]) s = .next (replied .cell .holeRead tag
      (0 :: (natField 1 h.owner ++ [h.loc.code, h.dirs.code] ++ pointField h.centre ++
        (natField 1 h.leadIn.length ++ h.leadIn.flatMap pointField)) ++
        (if s.plate.state.live then
          (natField 1 h.g.segLen.length ++ h.g.segLen.flatMap (natField 4)) ++ natField 4 h.g.lin ++
            natField 2 h.g.entrySeg ++ natField 4 h.g.entry ++ [h.lv.state.code] ++ natField 1 h.lv.fails ++
            [if h.lv.leadInCut then 1 else 0, if s.run.any (fun r => r.hole == b.toNat) then 1 else 0,
              if s.planner.target.any (fun g => g.place == .hole b.toNat) then 1 else 0]
        else [])) s)) ∧
  (∀ (tag b : Byte) (s : State), Serves .motion .runRead s →
    let refused (status : Byte) : Prop :=
      exec (.runRead tag [b]) s = .next (replied .motion .runRead tag [status] s)
    (b = 0 → s.run = none → refused 0x01) ∧ (b = 1 → s.lastRun = none → refused 0x01) ∧
    (b ≠ 0 → b ≠ 1 → refused 0x02)) ∧
  (∀ (tag : Byte) (s : State), Serves .motion .planRead s → s.run = none →
    exec (.planRead tag []) s = .next (replied .motion .planRead tag [0x01] s)) ∧
  (∀ (tag : Byte) (body : List Byte) (q : VertexReadReq) (s : State), Serves .cell .vertexRead s →
    parseVertexRead body = some q →
    let refused (status : Byte) : Prop :=
      exec (.vertexRead tag body) s = .next (replied .cell .vertexRead tag [status] s)
    (s.plate.state = .empty → refused 0x01) ∧
    (s.plate.state ≠ .empty → (63 < q.contour ∨ q.count = 0 ∨ 32 < q.count) → refused 0x02) ∧
    (s.plate.state ≠ .empty → q.contour ≤ 63 → 1 ≤ q.count → q.count ≤ 32 →
      (s.contour? q.contour = none → refused 0x01) ∧
      ∀ c, s.contour? q.contour = some c → c.vertices.length ≤ q.first → refused 0x02)) ∧
  (∀ (tag b : Byte) (s : State), Serves .cell .contourRead s →
    let refused (status : Byte) : Prop :=
      exec (.contourRead tag [b]) s = .next (replied .cell .contourRead tag [status] s)
    (s.plate.state = .empty → refused 0x01) ∧ (s.plate.state ≠ .empty → 63 < b.toNat → refused 0x02) ∧
    (s.plate.state ≠ .empty → b.toNat ≤ 63 → s.contour? b.toNat = none → refused 0x01)) ∧
  (∀ (tag b : Byte) (s : State), Serves .cell .holeRead s →
    let refused (status : Byte) : Prop := exec (.holeRead tag [b]) s = .next (replied .cell .holeRead tag [status] s)
    (s.plate.state = .empty → refused 0x01) ∧ (s.plate.state ≠ .empty → 127 < b.toNat → refused 0x02) ∧
    (s.plate.state ≠ .empty → b.toNat ≤ 127 → s.hole? b.toNat = none → refused 0x01))

/-- POSITION_READ (R36; all of X, then all of Y: log 29), TARGET_READ (R123) and CONFIG_READ (R164) are answered with
status OK in every plate state and run phase, carry what their rules name, and change nothing but the request in
progress. -/
def Obligations.PositionTargetAndConfigReads : Prop :=
  (∀ (tag : Byte) (s : State), Serves .motion .positionRead s →
    exec (.positionRead tag []) s = .next (replied .motion .positionRead tag
      (0 :: (channelField s.axisX ++ channelField s.axisY ++ flagField s.available ++ flagField s.suspect)) s)) ∧
  (∀ (tag : Byte) (s : State), Serves .thread .targetRead s →
    exec (.targetRead tag []) s = .next (replied .thread .targetRead tag
      (0 :: (targetField s.planner.target ++ wireField s.planner.wire)) s)) ∧
  (∀ (tag : Byte) (s : State), Serves .cell .configRead s →
    exec (.configRead tag []) s = .next (replied .cell .configRead tag (0 :: configFields s.cfg) s) ∧
    (0 :: configFields s.cfg).drop 1 = configFields s.cfg)

/-- Each discarded frame adds its entry to the error record of its link, a fourth pushing out the oldest, and the
receiver hunts; nothing else changes (R149, R150, R152). -/
def Obligations.DiscardedFramesAreRecorded : Prop :=
  ∀ (l : Link) (s : State), s.receives l = true →
    let after (e : ErrorEntry) : State := s.modLink l (fun k => { k with
      rx := .hunt, part := [], gapTime := 0
      errors := (if k.errors.length < 3 then k.errors else k.errors.drop 1) ++ [e] })
    (∀ kind tag, exec (.frameCheckError l kind tag) s = .next (after ⟨.check, some kind, some tag⟩)) ∧
    exec (.frameLengthError l) s = .next (after ⟨.length, none, none⟩) ∧
    exec (.frameGapTimeout l none none) s = .next (after ⟨.gap, none, none⟩) ∧
    (∀ kind, exec (.frameGapTimeout l (some kind) none) s = .next (after ⟨.gap, some kind, none⟩)) ∧
    (∀ kind tag, exec (.frameGapTimeout l (some kind) (some tag)) s = .next (after ⟨.gap, some kind, some tag⟩)) ∧
    (∀ kind tag, (s.link l).busy.isSome = true →
      exec (.frameOverrun l kind tag) s = .next (after ⟨.overrun, some kind, some tag⟩))

/-- UNKNOWN_KIND is answered with status KIND and changes nothing but the request in progress; for a KIND of 0x80 or
more the reply's KIND is a free value (R150, R151, log 7). The last byte of a reply frees the link (R150); a link reset
clears the interface but for its pending events, and the line's return to marking lets it hunt (R148, R158). -/
def Obligations.UnknownKindAndLinkEvents : Prop :=
  (∀ (l : Link) (kind tag : Byte) (s : State), s.receives l = true → (s.link l).busy = none →
    Req.ofKind l kind = none →
    ∃ (r : Byte) (n : Nat), (kind.toNat < 128 → r = kind + 0x80 ∧ n = s.freeCount) ∧
      exec (.unknownKind l kind tag) s = .next (answerWith l r kind tag [0x09] { s with freeCount := n })) ∧
  (∀ (l : Link) (p : InProgress) (frame : List Byte) (s : State), s.resetLow = false → (s.link l).busy = some p →
    p.reply = some frame →
    exec (.replySent l) s = .next (s.modLink l (fun k => { k with busy := none }))) ∧
  (∀ (l : Link) (s : State), s.resetLow = false →
    exec (.linkReset l) s = .next (driveAttn (s.modLink l (fun k => { k with
      rx := .brk, part := [], gapTime := 0, busy := none, errors := [], mask := routed l })))) ∧
  (∀ (l : Link) (s : State), (s.link l).rx = .brk →
    exec (.linkBreakEnd l) s = .next (s.modLink l (fun k => { k with rx := .hunt })))

/-! ### Runs (chapter 4) -/

/-- RUN_OPEN with no wire in the plate: the run of R63 in AWAIT_THREAD, its START target posted (R121), the plate
ACTIVE; its frontier at the cut-from distance (R38, R88), its limits from there (R89), CATCH_NEEDED where they hold it
back (R93), PLATE_STATE where the plate becomes ACTIVE, and the reply. -/
def Obligations.RunOpenPostsStartTarget : Prop :=
  ∀ (tag : Byte) (body : List Byte) (q : RunOpenReq) (c : Contour) (h : Hole) (kind : RunKind) (dir : Dir) (s : State),
    Serves .motion .runOpen s → parseRunOpen body = some q → OpenAllowed q c h kind dir s → s.planner.wire = .none →
    let cut := cutFrom kind h.g.entry dir c
    let lim := computeLimits kind h.g.entry dir c (s.catchArmed q.contour) s.cfg.permitLead cut
    let number := nextRunNumber s.runCounter
    ∃ t run, exec (.runOpen tag body) s = .next t ∧ t.run = some run ∧
      run = ⟨number, q.contour, q.hole, h.g.entry, kind, dir, q.setting, .awaitThread, cut, lim.limit, lim.stop,
        lim.final, lim.holdback, false, false, none, none, none, 0, 0, 0, none⟩ ∧
      t.runCounter = number ∧ t.plate = { s.plate with state := .active } ∧
      t.planner = { s.planner with
        counter := nextTargetNumber s.planner.counter
        target := some ⟨nextTargetNumber s.planner.counter, .start, .hole q.hole, q.contour, h.centre, false⟩
        withdrawn :=
          if s.planner.withdrawn.any (fun w => w.number == nextTargetNumber s.planner.counter) then none
          else s.planner.withdrawn } ∧
      t.prog = ⟨some (s.cfg.samplePeriod * 200), .none, 0, 0, 0, 0, none, 0, cut, 0, 0⟩ ∧
      t.gap = { s.gap with
        mismatch := 0, shortSince := false, eligible := false
        episode := if s.shortIn then some ⟨0, false, false⟩ else none } ∧
      t.sparkOk = false ∧ t.threadOk = !s.holdIn ∧ t.catchSet = s.catchSet ∧ t.lastRun = s.lastRun ∧
      t.trace = { s.trace with decimation := 0, tally := 0 } ∧ SetupKept s t ∧ Kept s t ∧
      (∀ l, l = .motion ∨ l = .cell →
        Table.get? (t.link l).raw 0 = some (.runPhase number (.phase .awaitThread)) ∧
        Table.get? (t.link l).raw 8 = (if lim.holdback then some (.catchNeeded number q.contour lim.held)
          else Table.get? (s.link l).raw 8) ∧
        (s.plate.state = .armed → Table.get? (t.link l).raw 12 = some (.plateState .active s.plate.ident))) ∧
      (∀ l, l = .motion ∨ l = .thread →
        Table.get? (t.link l).raw 4 = some (.target t.planner.target s.planner.lastStopped)) ∧
      t.motion.busy.bind (·.reply) = some (frameOf 0x90 tag
        (0 :: (natField 2 number ++ [0] ++ natField 4 cut ++ natField 4 lim.limit ++ intField 4 lim.stop ++
          [if lim.final then 1 else 0, if lim.holdback then 1 else 0])))

/-- RUN_OPEN with the wire threaded at the run's hole: LEAD_IN where its lead-in is uncut and the kind is not SKIM,
APPROACH otherwise, on the lead-in's start, and no target (R63, R53, R69); CATCH_NEEDED as at any opening (R93), the
permits' levels (R144, R145), and the reply. -/
def Obligations.RunOpenTakesUpThreadedHole : Prop :=
  ∀ (tag : Byte) (body : List Byte) (q : RunOpenReq) (c : Contour) (h : Hole) (kind : RunKind) (dir : Dir) (s : State),
    Serves .motion .runOpen s → parseRunOpen body = some q → OpenAllowed q c h kind dir s →
    s.planner.wire = .hole q.hole →
    let cut := cutFrom kind h.g.entry dir c
    let lim := computeLimits kind h.g.entry dir c (s.catchArmed q.contour) s.cfg.permitLead cut
    let number := nextRunNumber s.runCounter
    let phase : Phase := if kind ≠ .skim ∧ h.lv.leadInCut = false then .leadIn else .approach
    ∃ t, exec (.runOpen tag body) s = .next t ∧
      t.run = some ⟨number, q.contour, q.hole, h.g.entry, kind, dir, q.setting, phase, cut, lim.limit, lim.stop,
        lim.final, lim.holdback, false, false, none, none, none, 0, 0, 0, none⟩ ∧
      t.runCounter = number ∧ t.plate = { s.plate with state := .active } ∧ t.planner = s.planner ∧
      t.prog = ⟨some (s.cfg.samplePeriod * 200), .leadIn q.hole, 0, 0, 0, 0, none,
        runDist h.g.entry dir c.g.loopLen h.g.entry, cut, 0, 0⟩ ∧
      t.gap = { s.gap with
        mismatch := 0, shortSince := false, eligible := false, presence := false
        episode := if s.shortIn then some ⟨0, false, false⟩ else none
        settle := if phase = .leadIn ∧ s.cfg.settleTime ≠ 0 then some (s.cfg.settleTime * 10000) else s.gap.settle
        stray := if s.sparkOk = false ∧ t.sparkOk = true then 0 else s.gap.stray } ∧
      (∀ l, l = .motion ∨ l = .cell →
        Table.get? (t.link l).raw 0 = some (.runPhase number (.phase phase)) ∧
        Table.get? (t.link l).raw 8 = (if lim.holdback then some (.catchNeeded number q.contour lim.held)
          else Table.get? (s.link l).raw 8) ∧
        (s.plate.state = .armed → Table.get? (t.link l).raw 12 = some (.plateState .active s.plate.ident))) ∧
      t.sparkOk = (decide (phase = .leadIn) && !s.holdIn) ∧
      t.threadOk = (s.planner.target.isSome && !t.sparkOk && !s.holdIn) ∧
      t.catchSet = s.catchSet ∧ t.lastRun = s.lastRun ∧
      t.trace = { s.trace with decimation := 0, tally := 0 } ∧ SetupKept s t ∧ Kept s t ∧
      t.motion.busy.bind (·.reply) = some (frameOf 0x90 tag
        (0 :: (natField 2 number ++ [phase.code] ++ natField 4 cut ++ natField 4 lim.limit ++ intField 4 lim.stop ++
          [if lim.final then 1 else 0, if lim.holdback then 1 else 0])))

/-- RUN_OPEN is refused by the first of R62's ten checks that fails, with that check's status, and changes nothing. A
device that is not READY (check 3) is answered before the block (R169). -/
def Obligations.RunOpenRefusedByTheFirstCheck : Prop :=
  ∀ (tag : Byte) (body : List Byte) (q : RunOpenReq) (s : State), Serves .motion .runOpen s →
    parseRunOpen body = some q →
    let refused (status : Byte) : Prop :=
      exec (.runOpen tag body) s = .next (replied .motion .runOpen tag [status] s)
    let fault : Prop := s.gap.violation = true ∨ s.suspect = true ∨ s.lineFault = true
    (s.plate.state.live = false → refused 0x01) ∧
    (s.plate.state.live = true → s.run.isSome = true → refused 0x04) ∧
    (s.plate.state.live = true → s.run = none → fault → refused 0x05) ∧
    (s.plate.state.live = true → s.run = none → ¬ fault →
      ((63 < q.contour ∨ s.contour? q.contour = none ∨ 127 < q.hole ∨ s.hole? q.hole = none ∨
          (∃ h, s.hole? q.hole = some h ∧ h.owner ≠ q.contour) ∨ 2 < q.kind ∨ 1 < q.dir) → refused 0x02) ∧
      ∀ c h kind dir, q.contour ≤ 63 → s.contour? q.contour = some c → q.hole ≤ 127 → s.hole? q.hole = some h →
        h.owner = q.contour → RunKind.ofCode q.kind = some kind → Dir.ofCode q.dir = some dir →
        let five : Prop := h.lv.state = .opened ∧
          (h.dirs = .both ∨ (h.dirs = .fwd ∧ dir = .fwd) ∨ (h.dirs = .rev ∧ dir = .rev))
        let six : Prop :=
          (kind = .first → c.lv.state = .planned ∨ c.lv.state = .partly) ∧
          (kind = .release → (c.lv.state = .held ∨ c.lv.state = .suspect) ∧ c.cls ≠ .keep) ∧
          (kind = .skim → (c.lv.state = .partly ∨ c.lv.state = .held ∨ c.lv.state = .suspect) ∧
            h.lv.leadInCut = true)
        let seven : Prop := kind = .release → q.contour ∈ s.catchSet
        let nine : Prop := s.planner.wire = .none ∨ s.planner.wire = .hole q.hole
        let cut := cutFrom kind h.g.entry dir c
        let lim := computeLimits kind h.g.entry dir c (s.catchArmed q.contour) s.cfg.permitLead cut
        (¬ five ∨ ¬ six ∨ ¬ seven → refused 0x01) ∧
        (five → six → seven → 7 < q.setting → refused 0x02) ∧
        (five → six → seven → q.setting ≤ 7 → ¬ nine → refused 0x07) ∧
        (five → six → seven → q.setting ≤ 7 → nine → lim.limit ≤ cut → refused 0x01))

/-- RUN_CONTINUE returns a halted run to its return phase, or to AT_LIMIT where it would enter CUTTING beyond its stop
point, with the events, the settle trigger and the reply of that entry (R75, R67, R59, R69, R111, R102); it is refused
FAULT while a condition stands and STATE where nothing is halted. -/
def Obligations.RunContinueReturnsToItsPhase : Prop :=
  (∀ (tag : Byte) (run : Run) (h : Halt) (s : State), Serves .motion .runContinue s → s.run = some run →
    run.phase = .halted → run.halt = some h → NothingStands s → (h.causes.pinch = false ∨ s.shortIn = false) →
    let tested := testedValue run s.prog
    let limited : Bool := decide (h.back = .cutting ∧ run.stop ≤ tested)
    let entered : Phase := if limited then .atLimit else h.back
    ∃ t, exec (.runContinue tag []) s = .next t ∧ t.run = some { run with halt := none, phase := entered } ∧
      t.prog = { s.prog with offPath := 0, dry := 0 } ∧
      t.gap = { s.gap with
        presence := false, mismatch := 0
        settle := if (h.back = .leadIn ∨ s.cfg.settleOnResume = true) ∧ s.cfg.settleTime ≠ 0 then
            some (s.cfg.settleTime * 10000) else s.gap.settle
        eligible := if entered = .cutting ∧ s.cfg.settleOnResume = false then s.gap.eligible else false
        stray := if s.sparkOk = false ∧ t.sparkOk = true then 0 else s.gap.stray } ∧
      t.sparkOk = (decide (s.plate.state = .active ∧ (entered = .leadIn ∨ entered = .cutting)) && !s.holdIn) ∧
      t.threadOk = (s.planner.target.isSome && !t.sparkOk && !s.holdIn) ∧
      t.motion.busy.bind (·.reply) = some (frameOf 0x91 tag [0, entered.code]) ∧
      (∀ l, l = .motion ∨ l = .cell →
        Table.get? (t.link l).raw 0 = some (.runPhase run.number (.phase entered)) ∧
        Table.get? (t.link l).raw 2 = (if limited then some (.atLimit run.number run.stop tested)
          else Table.get? (s.link l).raw 2)) ∧
      (∀ l b, b ≠ 0 → b ≠ 2 → Table.get? (t.link l).raw b = Table.get? (s.link l).raw b) ∧
      t.plate = s.plate ∧ t.planner = s.planner ∧ t.catchSet = s.catchSet ∧ t.trace = s.trace ∧
      SetupKept s t ∧ HistoryKept s t ∧ Kept s t) ∧
  (∀ (tag : Byte) (run : Run) (h : Halt) (s : State), Serves .motion .runContinue s → s.run = some run →
    run.phase = .halted → run.halt = some h →
    (s.encoderCond = true ∨ s.gap.violation = true ∨ (h.causes.pinch = true ∧ s.shortIn = true)) →
    exec (.runContinue tag []) s = .next (replied .motion .runContinue tag [0x05] s)) ∧
  (∀ (tag : Byte) (s : State), Serves .motion .runContinue s → (∀ run, s.run = some run → run.phase ≠ .halted) →
    exec (.runContinue tag []) s = .next (replied .motion .runContinue tag [0x01] s))

/-- RUN_CLOSE ends the open run with the effects of R78: target withdrawn with its TARGET (R122), implied tab (R87),
wire record, last-run record (R61), evaluation of its contour with CONTOUR_STATE and the INSIDE holes that become LOST
(R134), RUN_PHASE with CLOSED, and the reply. With no run open it is refused STATE. -/
def Obligations.RunCloseEndsTheRun : Prop :=
  (∀ (tag : Byte) (run : Run) (s : State), Serves .motion .runClose s → s.run = some run →
    ∃ t, exec (.runClose tag []) s = .next t ∧ t.run = none ∧
      t.lastRun = some ⟨{ run with warn := false }, s.prog.r, s.prog.a, s.prog.lam, s.prog.dev, run.phase⟩ ∧
      t.prog = Progress.idle ∧ t.runCounter = s.runCounter ∧
      t.planner.target = none ∧ t.planner.kerf = none ∧ t.planner.counter = s.planner.counter ∧
      t.planner.withdrawn = (match s.planner.target with
        | some g => if g.begun then some ⟨g.number, g.place, g.contour, g.point⟩ else s.planner.withdrawn
        | none => s.planner.withdrawn) ∧
      t.planner.wire = (match s.planner.wire with
        | .hole h => if run.leftHole then .kerf run.contour s.pos else .hole h
        | .kerf k p => if run.leftHole then .kerf run.contour s.pos else .kerf k p
        | .unknown => .unknown
        | .none => .none) ∧
      t.gap = { s.gap with
        episode := none, settle := none, mismatch := 0, eligible := false, presence := t.gap.presence } ∧
      t.sparkOk = false ∧ t.threadOk = false ∧
      t.plate.state = s.plate.state ∧ t.plate.ident = s.plate.ident ∧ t.plate.errors = s.plate.errors ∧
      (∀ i, i ≠ run.contour → t.contour? i = s.contour? i) ∧
      (∀ c v, s.contour? run.contour = some c → c.live = some v →
        ∃ d, t.contour? run.contour = some d ∧
          d = { c with live := some { v with
            implied := if run.holdback = true ∧ s.prog.a < run.limit then
                some (runStretch run.e0 run.dir c.g.loopLen s.prog.a (run.limit + c.width)) else v.implied
            state := d.evaluated (s.catchArmed run.contour) s.cfg.permitLead } }) ∧
      (∀ i h, s.hole? i = some h → (h.owner ≠ run.contour ∨ h.loc = .outside) → t.hole? i = some h) ∧
      (∀ c v d w, s.contour? run.contour = some c → c.live = some v → t.contour? run.contour = some d →
        d.live = some w →
        (∀ i h, s.hole? i = some h → h.owner = run.contour → h.loc = .inside →
          t.hole? i = some (if w.state ≠ v.state ∧ (w.state = .free ∨ w.state = .loose ∨ w.state = .removed) then
            { h with live := h.live.map (fun x => { x with state := .lost }) } else h)) ∧
        (∀ l, l = .motion ∨ l = .cell →
          (w.state = v.state → Table.get? (t.link l).raw 7 = Table.get? (s.link l).raw 7) ∧
          (w.state ≠ v.state → ∃ m, Table.get? (t.link l).raw 7 = some (.contourState m) ∧
            Table.get? m run.contour = some w.state))) ∧
      (∀ l, l = .motion ∨ l = .cell → Table.get? (t.link l).raw 0 = some (.runPhase run.number .closed)) ∧
      (∀ l, l = .motion ∨ l = .thread → Table.get? (t.link l).raw 4 = (match s.planner.target with
        | some g => some (.target none (some (g.number, .withdrawn)))
        | none => Table.get? (s.link l).raw 4)) ∧
      (∀ l b, b ≠ 0 → b ≠ 4 → b ≠ 7 → Table.get? (t.link l).raw b = Table.get? (s.link l).raw b) ∧
      t.motion.busy.bind (·.reply) = some (frameOf 0x92 tag
        (0 :: (natField 2 run.number ++ [run.phase.code] ++ natField 4 s.prog.a))) ∧
      t.catchSet = s.catchSet ∧ t.trace = { s.trace with decimation := 0, tally := 0 } ∧ SetupKept s t ∧ Kept s t) ∧
  (∀ (tag : Byte) (s : State), Serves .motion .runClose s → s.run = none →
    exec (.runClose tag []) s = .next (replied .motion .runClose tag [0x01] s))

/-- SETTING_CHANGE (R77, R69, R102) and WARN_CLEAR (R72), with their refusals. WARN_CLEAR uses the remaining distance
as it stood after the run's last completed sample; before the first one, as it stands (the model's choice, log 40). -/
def Obligations.SettingChangeAndWarnClear : Prop :=
  (∀ (tag b : Byte) (run : Run) (s : State), Serves .motion .settingChange s → s.run = some run → b.toNat ≤ 7 →
    exec (.settingChange tag [b]) s = .next (replied .motion .settingChange tag (0 :: (natField 2 run.number ++ [b]))
      (drive { s with
        run := some { run with expected := b.toNat }
        gap := { s.gap with
          mismatch := 0, eligible := false
          settle := if s.cfg.settleOnResume = true ∧ s.cfg.settleTime ≠ 0 then some (s.cfg.settleTime * 10000)
            else s.gap.settle } }))) ∧
  (∀ (tag b : Byte) (s : State), Serves .motion .settingChange s →
    (s.run = none → exec (.settingChange tag [b]) s = .next (replied .motion .settingChange tag [0x01] s)) ∧
    (s.run.isSome = true → 7 < b.toNat →
      exec (.settingChange tag [b]) s = .next (replied .motion .settingChange tag [0x02] s))) ∧
  (∀ (tag : Byte) (run : Run) (s : State), Serves .motion .warnClear s → s.run = some run →
    let rem : Int := match run.sampledRem with
      | some d => d
      | none => run.stop - (if run.kind = .skim then s.prog.r else s.prog.a)
    let now : Bool := match s.cfg.warnMode with
      | .level => run.warn
      | .latched => run.warn && decide (rem ≤ s.cfg.warnDist)
    exec (.warnClear tag []) s = .next (replied .motion .warnClear tag
      (0 :: ((if now then 1 else 0) :: intField 4 rem)) { s with run := some { run with warn := now } })) ∧
  (∀ (tag : Byte) (s : State), Serves .motion .warnClear s → s.run = none →
    exec (.warnClear tag []) s = .next (replied .motion .warnClear tag [0x01] s))

/-! ### Axes (chapter 2) -/

/-- ZERO_SET takes the offsets of both channels, clears their latches and index references, and posts ENCODER; it is
refused BUSY while a run is open and FAULT while a line fault is present (R35). Its reply has all of X before all of Y
(log 29). -/
def Obligations.ZeroSetSetsBothOffsets : Prop :=
  (∀ (tag : Byte) (q : ZeroSetReq) (s : State), Serves .motion .zeroSet s → s.run = none → s.lineFault = false →
    let x : Channel := { s.axisX with zero := q.x, skip := false, zeroMark := false, suspect := false, index := none }
    let y : Channel := { s.axisY with zero := q.y, skip := false, zeroMark := false, suspect := false, index := none }
    let t := drive (post (.encoder x.latches y.latches .zeroSet .both) { s with axisX := x, axisY := y })
    exec (.zeroSet tag q.body) s = .next (replied .motion .zeroSet tag
      (0 :: (intField 4 x.count.toInt ++ intField 3 x.coord ++ flagField x.outOfEnvelope ++
        (intField 4 y.count.toInt ++ intField 3 y.coord ++ flagField y.outOfEnvelope))) t)) ∧
  (∀ (tag : Byte) (q : ZeroSetReq) (s : State), Serves .motion .zeroSet s → s.run.isSome = true →
    exec (.zeroSet tag q.body) s = .next (replied .motion .zeroSet tag [0x04] s)) ∧
  (∀ (tag : Byte) (q : ZeroSetReq) (s : State), Serves .motion .zeroSet s → s.run = none → s.lineFault = true →
    exec (.zeroSet tag q.body) s = .next (replied .motion .zeroSet tag [0x05] s))

/-- An observation of valid A and B pairs against the reference: a first one is taken, a forward or reverse step of
Table 2-2 counts by one and wraps, no change does nothing, and both changed sets skip and suspect latch, leaves the
count (R25, R26), posts ENCODER with the latches after it (R34) and halts the run on ENCODER (R73). In a line fault the
count stays frozen (R27). A pair at an invalid level counts as at its last valid level (R27). That the levels seen stay
the last valid ones in a line fault and past it, and that a pair with none since the reset counts as at some level, left
open, are the model's choice (log 8). -/
def Obligations.QuadratureStepCounts : Prop :=
  (∀ (axis : Axis) (a b : Bool) (s : State), s.resetLow = false →
    let c := s.axis axis
    let seen : Channel := { c with lastA := some a, lastB := some b }
    (c.fault = true → exec (.quadratureStep axis (some a) (some b)) s = .next (s.setAxis axis seen)) ∧
    (c.fault = false → c.quad = none →
      exec (.quadratureStep axis (some a) (some b)) s = .next (s.setAxis axis { seen with quad := some (a, b) })) ∧
    (c.fault = false → c.quad = some (a, b) →
      exec (.quadratureStep axis (some a) (some b)) s = .next (s.setAxis axis seen)) ∧
    (c.fault = false →
      (c.quad, a, b) ∈ [(some (false, false), true, false), (some (true, false), true, true),
        (some (true, true), false, true), (some (false, true), false, false)] →
      exec (.quadratureStep axis (some a) (some b)) s =
        .next (s.setAxis axis { seen with quad := some (a, b), count := c.count + 1 })) ∧
    (c.fault = false →
      (c.quad, a, b) ∈ [(some (false, false), false, true), (some (true, false), false, false),
        (some (true, true), true, false), (some (false, true), true, true)] →
      exec (.quadratureStep axis (some a) (some b)) s =
        .next (s.setAxis axis { seen with quad := some (a, b), count := c.count - 1 })) ∧
    (c.fault = false → c.quad = some (!a, !b) →
      ∃ t, exec (.quadratureStep axis (some a) (some b)) s = .next t ∧
        t.axis axis = { seen with quad := some (a, b), skip := true, suspect := true } ∧
        (∀ o, o ≠ axis → t.axis o = s.axis o) ∧
        (∀ l, l = .motion ∨ l = .cell → Table.get? (t.link l).raw 9 =
          some (.encoder t.axisX.latches t.axisY.latches .skip (encChannel axis))) ∧
        (∀ run, s.run = some run → run.phase.tracking = true → s.encoderCond = false →
          ∃ r, t.run = some r ∧ r.phase = .halted ∧ r.halt = some ⟨⟨false, true, false, false, false⟩, run.phase⟩) ∧
        (s.run = none → t.run = none) ∧ t.plate = s.plate ∧ t.prog = s.prog ∧ t.cfg = s.cfg ∧
        t.planner = s.planner ∧ t.catchSet = s.catchSet ∧ t.trace = s.trace ∧ HistoryKept s t ∧ Kept s t)) ∧
  (∀ (axis : Axis) (a b : Bool) (s : State), s.resetLow = false →
    ∃ t, exec (.quadratureStep axis (some a) (some b)) s = .next t ∧
      (t.axis axis).lastA = some a ∧ (t.axis axis).lastB = some b) ∧
  (∀ (axis : Axis) (a b : Option Bool) (p q : Bool) (s : State),
    (s.axis axis).lastA = some p → (s.axis axis).lastB = some q →
    exec (.quadratureStep axis a b) s = exec (.quadratureStep axis (some (a.getD p)) (some (b.getD q))) s) ∧
  (∀ (axis : Axis) (a b : Option Bool) (s : State), (s.axis axis).fault = false →
    ∃ (p q : Bool) (n : Nat),
      (∀ x, a = some x ∨ (a = none ∧ (s.axis axis).lastA = some x) → p = x) ∧
      (∀ x, b = some x ∨ (b = none ∧ (s.axis axis).lastB = some x) → q = x) ∧
      (s.resetLow = false →
        exec (.quadratureStep axis a b) s = exec (.quadratureStep axis (some p) (some q)) { s with freeCount := n }))

/-- A line fault begins and ends as R27 and R28 say, with ENCODER and the latches after it each time (R34); an index
pulse becomes the reference in every case, and a disagreeing one sets the zero-mark and suspect latches and posts
ENCODER (R29). -/
def Obligations.LineFaultsAndIndexPulses : Prop :=
  (∀ (axis : Axis) (s : State), s.resetLow = false → (s.axis axis).fault = false →
    ∃ t, exec (.lineFaultBegin axis) s = .next t ∧
      t.axis axis = { s.axis axis with fault := true, suspect := true } ∧ (∀ o, o ≠ axis → t.axis o = s.axis o) ∧
      (∀ l, l = .motion ∨ l = .cell →
        Table.get? (t.link l).raw 9 =
          some (.encoder t.axisX.latches t.axisY.latches .faultBegin (encChannel axis))) ∧
      (∀ run, s.run = some run → run.phase.tracking = true → s.encoderCond = false →
        ∃ r, t.run = some r ∧ r.phase = .halted ∧ r.halt = some ⟨⟨false, true, false, false, false⟩, run.phase⟩) ∧
      t.plate = s.plate ∧ t.prog = s.prog ∧ t.cfg = s.cfg ∧ t.planner = s.planner ∧ t.catchSet = s.catchSet ∧
      t.trace = s.trace ∧ HistoryKept s t ∧ Kept s t) ∧
  (∀ (axis : Axis) (s : State), s.resetLow = false → (s.axis axis).fault = true →
    ∃ t, exec (.lineFaultEnd axis) s = .next t ∧
      t.axis axis = { s.axis axis with fault := false, quad := none, index := none } ∧
      (∀ o, o ≠ axis → t.axis o = s.axis o) ∧
      (∀ l, l = .motion ∨ l = .cell →
        Table.get? (t.link l).raw 9 =
          some (.encoder t.axisX.latches t.axisY.latches .faultEnd (encChannel axis))) ∧
      t.run = s.run ∧ t.plate = s.plate ∧ t.prog = s.prog ∧ t.cfg = s.cfg ∧ t.planner = s.planner ∧
      t.catchSet = s.catchSet ∧ t.trace = s.trace ∧ HistoryKept s t ∧ Kept s t) ∧
  (∀ (axis : Axis) (s : State), s.resetLow = false → (s.axis axis).fault = false → s.cfg.indexPitch axis ≠ 0 →
    (s.axis axis).index = none →
    exec (.indexPulse axis) s = .next (s.setAxis axis { s.axis axis with index := some (s.axis axis).count })) ∧
  (∀ (axis : Axis) (ref : BitVec 32) (s : State), s.resetLow = false → (s.axis axis).fault = false →
    s.cfg.indexPitch axis ≠ 0 → (s.axis axis).index = some ref →
    let d := ((s.axis axis).count - ref).toInt.natAbs
    let agrees := d ≤ s.cfg.indexTol ∨ ((d : Int) - s.cfg.indexPitch axis).natAbs ≤ s.cfg.indexTol
    (agrees → exec (.indexPulse axis) s =
      .next (s.setAxis axis { s.axis axis with index := some (s.axis axis).count })) ∧
    (¬ agrees → ∃ t, exec (.indexPulse axis) s = .next t ∧
      t.axis axis = { s.axis axis with index := some (s.axis axis).count, zeroMark := true, suspect := true } ∧
      (∀ o, o ≠ axis → t.axis o = s.axis o) ∧
      (∀ l, l = .motion ∨ l = .cell →
        Table.get? (t.link l).raw 9 =
          some (.encoder t.axisX.latches t.axisY.latches .index (encChannel axis))) ∧
      (∀ run, s.run = some run → run.phase.tracking = true → s.encoderCond = false →
        ∃ r, t.run = some r ∧ r.phase = .halted ∧ r.halt = some ⟨⟨false, true, false, false, false⟩, run.phase⟩) ∧
      t.plate = s.plate ∧ t.prog = s.prog ∧ t.cfg = s.cfg ∧ t.planner = s.planner ∧ t.catchSet = s.catchSet ∧
      t.trace = s.trace ∧ HistoryKept s t ∧ Kept s t)) ∧
  (∀ (axis : Axis) (s : State), s.cfg.indexPitch axis = 0 → exec (.indexPulse axis) s = .next s)

/-! ### Threading (chapter 7) -/

/-- THREAD_BEGIN marks the posted target begun, or is refused by the first of R124's seven checks that fails; its reply
carries target number, point and plate position whatever the status (R124, R160). With no target posted the number is 0
and the point all ones, which is the model's reading (log 42; fields of a refusal: log 28). WIRE_CUT makes the wire
record NONE and changes nothing else (R115). -/
def Obligations.ThreadBeginAndWireCut : Prop :=
  (∀ (tag b : Byte) (g : Target) (s : State), Serves .thread .threadBegin s → s.planner.target = some g →
    g.number = b.toNat → g.begun = false → s.planner.wire = .none → s.holdIn = false → s.suspect = false →
    s.available = true →
    ((s.pos.x - g.point.x).natAbs ≤ s.cfg.threadTol ∧ (s.pos.y - g.point.y).natAbs ≤ s.cfg.threadTol) →
    exec (.threadBegin tag [b]) s = .next (replied .thread .threadBegin tag
      (0 :: (natField 1 g.number ++ pointField g.point ++ pointField s.pos))
      { s with planner := { s.planner with target := some { g with begun := true } } })) ∧
  (∀ (tag b : Byte) (s : State), Serves .thread .threadBegin s → s.planner.target = none →
    exec (.threadBegin tag [b]) s = .next (replied .thread .threadBegin tag
      (0x01 :: 0 :: (List.replicate 6 0xFF ++ pointField s.pos)) s)) ∧
  (∀ (tag b : Byte) (g : Target) (s : State), Serves .thread .threadBegin s → s.planner.target = some g →
    let within : Prop :=
      (s.pos.x - g.point.x).natAbs ≤ s.cfg.threadTol ∧ (s.pos.y - g.point.y).natAbs ≤ s.cfg.threadTol
    let refused (status : Byte) : Prop := exec (.threadBegin tag [b]) s = .next (replied .thread .threadBegin tag
      (status :: (natField 1 g.number ++ pointField g.point ++ pointField s.pos)) s)
    (g.number ≠ b.toNat → refused 0x06) ∧
    (g.number = b.toNat → g.begun = true → refused 0x01) ∧
    (g.number = b.toNat → g.begun = false → s.planner.wire ≠ .none → refused 0x07) ∧
    (g.number = b.toNat → g.begun = false → s.planner.wire = .none →
      (s.holdIn = true ∨ s.suspect = true ∨ s.available = false) → refused 0x05) ∧
    (g.number = b.toNat → g.begun = false → s.planner.wire = .none → s.holdIn = false → s.suspect = false →
      s.available = true → ¬ within → refused 0x08)) ∧
  (∀ (tag : Byte) (s : State), Serves .thread .wireCut s →
    (∀ run, s.run = some run → run.phase = .awaitThread ∨ run.phase = .broken ∨ run.phase = .stranded) →
    exec (.wireCut tag []) s = .next (replied .thread .wireCut tag [0, 1, 0xFF, 0, 0, 0, 0, 0, 0]
      { s with planner := { s.planner with wire := .none } })) ∧
  (∀ (tag : Byte) (run : Run) (s : State), Serves .thread .wireCut s → s.run = some run →
    (run.phase = .leadIn ∨ run.phase = .approach ∨ run.phase = .cutting ∨ run.phase = .atLimit ∨ run.phase = .halted) →
    exec (.wireCut tag []) s = .next (replied .thread .wireCut tag (0x01 :: wireField s.planner.wire) s))

/-- THREAD_DONE OK for a target at a hole: wire there, target cleared with its TARGET, path at the lead-in's start,
limits computed again, with CATCH_NEEDED where they newly hold the run back (R93), LEAD_IN or APPROACH entered with its
RUN_PHASE, the settle window triggered at LEAD_IN, the window's mark ineligible (R126, R76, R53, R69, R111, R102). Where
a condition stands the run is halted at that entry with HALT (R73), and the reply still carries the phase entered
(R126); whether SPARK_OK shows high between the two is left open (log 10). -/
def Obligations.ThreadDoneOkAtHoleResumesRun : Prop :=
  ∀ (tag : Byte) (q : ThreadDoneReq) (g : Target) (run : Run) (hIdx : Nat) (hole : Hole) (c : Contour) (s : State),
    Serves .thread .threadDone s → RunCoherent s →
    q.number < 256 → q.result = 0 → s.planner.target = some g → g.number = q.number → g.begun = true →
    (∀ w, s.planner.withdrawn = some w → w.number ≠ q.number) →
    s.run = some run → g.place = .hole hIdx → s.hole? hIdx = some hole → s.contour? run.contour = some c →
    let entered : Phase := if run.kind ≠ .skim ∧ hole.lv.leadInCut = false then .leadIn else .approach
    let lim := computeLimits run.kind run.e0 run.dir c (s.catchArmed run.contour) s.cfg.permitLead s.prog.a
    let causes : Causes := ⟨false, s.encoderCond, false, false, s.gap.violation⟩
    ∃ t r, exec (.threadDone tag q.body) s = .next t ∧ t.run = some r ∧
      (NothingStands s → r.phase = entered ∧ r.halt = none ∧
        t.sparkOk = (decide (s.plate.state = .active ∧ entered = .leadIn) && !s.holdIn) ∧
        t.gap.stray = if s.sparkOk = false ∧ t.sparkOk = true then 0 else s.gap.stray) ∧
      (¬ NothingStands s → r.phase = .halted ∧ r.halt = some ⟨causes, entered⟩ ∧ t.sparkOk = false) ∧
      (∀ l, l = .motion ∨ l = .cell →
        Table.get? (t.link l).raw 0 = some (.runPhase run.number (.phase r.phase)) ∧
        (NothingStands s → Table.get? (t.link l).raw 6 = Table.get? (s.link l).raw 6) ∧
        (¬ NothingStands s → Table.get? (t.link l).raw 6 = some (.halt run.number causes entered)) ∧
        Table.get? (t.link l).raw 8 = (if lim.holdback = true ∧ run.holdback = false then
          some (.catchNeeded run.number run.contour lim.held) else Table.get? (s.link l).raw 8)) ∧
      t.thread.busy.bind (·.reply) = some (frameOf 0xA1 tag (0 :: (natField 2 run.number ++ [entered.code] ++
        natField 4 r.c ++ natField 4 lim.limit ++ intField 4 lim.stop))) ∧
      (∀ l, l = .motion ∨ l = .thread →
        Table.get? (t.link l).raw 4 = some (.target none (some (g.number, .done)))) ∧
      r.hole = hIdx ∧
      r.c = (match g.purpose with
        | .start => run.c
        | .resume => (run.plan.map (fun p => p.resume)).getD run.c) ∧
      r.limit = lim.limit ∧ r.stop = lim.stop ∧ r.final = lim.final ∧ r.holdback = lim.holdback ∧
      r.number = run.number ∧ r.contour = run.contour ∧ r.e0 = run.e0 ∧ r.kind = run.kind ∧ r.dir = run.dir ∧
      r.expected = run.expected ∧ r.plan = run.plan ∧ r.brk = run.brk ∧ r.breaks = run.breaks ∧
      r.discharges = run.discharges ∧ r.shorts = run.shorts ∧ r.leftHole = run.leftHole ∧
      t.planner = { s.planner with wire := .hole hIdx, target := none, lastStopped := some (g.number, .done) } ∧
      t.prog = { s.prog with
        path := .leadIn hIdx, seg := 0, along := 0, dev := 0, lam := 0, sOld := none
        r := runDist run.e0 run.dir c.g.loopLen hole.g.entry, offPath := 0, dry := 0 } ∧
      t.plate = s.plate ∧ t.catchSet = s.catchSet ∧ t.trace = s.trace ∧ SetupKept s t ∧ HistoryKept s t ∧ Kept s t ∧
      t.gap = { s.gap with
        presence := false, eligible := false, stray := t.gap.stray
        settle := if entered = .leadIn ∧ s.cfg.settleTime ≠ 0 then some (s.cfg.settleTime * 10000)
          else s.gap.settle } ∧
      t.threadOk = false

/-- THREAD_DONE OK for a target in the kerf: wire there, target cleared with its TARGET, path on the loop at the backoff
distance, APPROACH entered with its RUN_PHASE and no settle trigger, the cut-from distance at the plan's resume
distance, CATCH_NEEDED where the limits newly hold the run back (R93), and the reply (R126, R76, R53, R69). Where a
condition stands the run is halted at that entry with HALT (R73), and the reply still carries the phase entered. -/
def Obligations.ThreadDoneOkInKerfResumesRun : Prop :=
  ∀ (tag : Byte) (q : ThreadDoneReq) (g : Target) (run : Run) (plan : Plan) (back : Nat) (c : Contour) (s : State),
    Serves .thread .threadDone s → RunCoherent s →
    q.number < 256 → q.result = 0 → s.planner.target = some g → g.number = q.number → g.begun = true →
    (∀ w, s.planner.withdrawn = some w → w.number ≠ q.number) →
    s.run = some run → g.place = .kerf → g.purpose = .resume → run.plan = some plan → plan.backoff = some back →
    s.contour? run.contour = some c →
    let lim := computeLimits run.kind run.e0 run.dir c (s.catchArmed run.contour) s.cfg.permitLead s.prog.a
    let pos := loopPos run.e0 run.dir c.g.loopLen back
    let causes : Causes := ⟨false, s.encoderCond, false, false, s.gap.violation⟩
    ∃ t r, exec (.threadDone tag q.body) s = .next t ∧ t.run = some r ∧
      (NothingStands s → r.phase = .approach ∧ r.halt = none) ∧
      (¬ NothingStands s → r.phase = .halted ∧ r.halt = some ⟨causes, .approach⟩) ∧
      (∀ l, l = .motion ∨ l = .cell →
        Table.get? (t.link l).raw 0 = some (.runPhase run.number (.phase r.phase)) ∧
        (NothingStands s → Table.get? (t.link l).raw 6 = Table.get? (s.link l).raw 6) ∧
        (¬ NothingStands s → Table.get? (t.link l).raw 6 = some (.halt run.number causes .approach)) ∧
        Table.get? (t.link l).raw 8 = (if lim.holdback = true ∧ run.holdback = false then
          some (.catchNeeded run.number run.contour lim.held) else Table.get? (s.link l).raw 8)) ∧
      (∀ l, l = .motion ∨ l = .thread →
        Table.get? (t.link l).raw 4 = some (.target none (some (g.number, .done)))) ∧
      r.hole = run.hole ∧ r.c = plan.resume ∧
      r.limit = lim.limit ∧ r.stop = lim.stop ∧ r.final = lim.final ∧ r.holdback = lim.holdback ∧
      t.thread.busy.bind (·.reply) = some (frameOf 0xA1 tag (0 :: (natField 2 run.number ++ [2] ++
        natField 4 plan.resume ++ natField 4 lim.limit ++ intField 4 lim.stop))) ∧
      t.planner = { s.planner with
        wire := .kerf run.contour g.point, target := none, lastStopped := some (g.number, .done) } ∧
      t.prog = { s.prog with
        path := .loop, seg := (holding c.g.segLen pos).1, along := (holding c.g.segLen pos).2, dev := 0
        sOld := some pos, r := back, offPath := 0, dry := 0 } ∧
      t.plate = s.plate ∧ t.catchSet = s.catchSet ∧ t.trace = s.trace ∧ SetupKept s t ∧ HistoryKept s t ∧ Kept s t ∧
      t.gap = { s.gap with presence := false, eligible := false } ∧ t.sparkOk = false ∧ t.threadOk = false

/-- THREAD_DONE FAIL: the attempt is counted, at the hole up to BLOCKED, in the kerf on the kerf attempts (R127); a
new target is posted, by the plan for a RESUME target and at the run's open hole for a START target, or the run is
stranded (R128, R120; log 36), with one TARGET, and the reply. A THREAD_DONE for the withdrawn target is answered
WITHDRAWN and ends its memory; one with another result code, with no target posted, for another number or for an
attempt that is not begun is refused and changes nothing (R125). -/
def Obligations.ThreadDoneFailAndWithdrawn : Prop :=
  (∀ (tag : Byte) (q : ThreadDoneReq) (g : Target) (run : Run) (s : State),
    Serves .thread .threadDone s → RunCoherent s → q.number < 256 → q.result = 1 →
    s.planner.target = some g → g.number = q.number → g.begun = true →
    (∀ w, s.planner.withdrawn = some w → w.number ≠ q.number) → s.run = some run →
    ∃ t r, exec (.threadDone tag q.body) s = .next t ∧ t.run = some r ∧
      ((t.planner.target.isSome = true ∧ r.phase = run.phase) ∨ (t.planner.target = none ∧ r.phase = .stranded)) ∧
      (g.purpose = .resume → ∀ p, run.brk.bind (choosePlan t run) = some p →
        t.planner.target = some ⟨nextTargetNumber s.planner.counter, .resume, p.place, run.contour, p.target, false⟩ ∧
        r.plan = some p ∧ r.phase = run.phase) ∧
      (g.purpose = .resume → run.brk.bind (choosePlan t run) = none →
        t.planner.target = none ∧ r.plan = none ∧ r.phase = .stranded ∧
        ∀ l, l = .motion ∨ l = .cell →
          Table.get? (t.link l).raw 5 = some (.stranded run.number run.contour run.hole .noPlan)) ∧
      (g.purpose = .start → ∀ hole, t.hole? run.hole = some hole →
        (hole.lv.state = .opened → r.phase = run.phase ∧ t.planner.target =
          some ⟨nextTargetNumber s.planner.counter, .start, .hole run.hole, run.contour, hole.centre, false⟩) ∧
        (hole.lv.state ≠ .opened → t.planner.target = none ∧ r.phase = .stranded ∧
          ∀ l, l = .motion ∨ l = .cell →
            Table.get? (t.link l).raw 5 = some (.stranded run.number run.contour run.hole .startBlocked))) ∧
      (∀ l, l = .motion ∨ l = .thread →
        Table.get? (t.link l).raw 4 = some (.target t.planner.target (some (g.number, .failed)))) ∧
      t.thread.busy.bind (·.reply) = some (frameOf 0xA1 tag (0 :: (natField 2 run.number ++ [r.phase.code] ++
        natField 1 ((t.planner.target.map (fun x => x.number)).getD 0)))) ∧
      t.planner.lastStopped = some (g.number, .failed) ∧ t.planner.wire = s.planner.wire ∧
      (g.place = .kerf → t.planner.kerf = some (s.planner.kerf.getD 0 + 1) ∧ t.plate = s.plate) ∧
      (∀ h, g.place = .hole h → t.planner.kerf = s.planner.kerf ∧
        (∀ k, k ≠ h → t.hole? k = s.hole? k) ∧ t.plate.contours = s.plate.contours ∧
        ∀ hole v, s.hole? h = some hole → hole.live = some v →
          t.hole? h = some { hole with live := some { v with
            fails := v.fails + 1
            state := if v.fails + 1 = s.cfg.holeLimit ∧ v.state ≠ .lost then .blocked else v.state } }) ∧
      r.limit = run.limit ∧ r.c = run.c ∧ r.breaks = run.breaks ∧ r.brk = run.brk ∧
      t.prog = s.prog ∧ t.catchSet = s.catchSet ∧ t.trace = s.trace ∧ SetupKept s t ∧ HistoryKept s t ∧ Kept s t ∧
      t.gap = { s.gap with eligible := t.gap.eligible }) ∧
  (∀ (tag : Byte) (q : ThreadDoneReq) (w : Withdrawn) (s : State), Serves .thread .threadDone s →
    q.number < 256 → q.result ≤ 1 → s.planner.withdrawn = some w → w.number = q.number →
    exec (.threadDone tag q.body) s = .next (replied .thread .threadDone tag [0x0C]
      { s with planner := { s.planner with
        withdrawn := none
        wire := if q.result = 0 then (match w.place with
          | .hole h => .hole h
          | .kerf => .kerf w.contour w.point) else s.planner.wire } })) ∧
  (∀ (tag : Byte) (q : ThreadDoneReq) (s : State), Serves .thread .threadDone s → q.number < 256 → q.result < 256 →
    let refused (status : Byte) : Prop :=
      exec (.threadDone tag q.body) s = .next (replied .thread .threadDone tag [status] s)
    (1 < q.result → refused 0x02) ∧
    (q.result ≤ 1 → (∀ w, s.planner.withdrawn = some w → w.number ≠ q.number) →
      (s.planner.target = none → refused 0x01) ∧
      ∀ g, s.planner.target = some g →
        (g.number ≠ q.number → refused 0x06) ∧ (g.number = q.number → g.begun = false → refused 0x01)))

/-- BREAK_IN makes the wire record NONE in every phase. With no run it is reported; in AWAIT_THREAD, BROKEN and
STRANDED it is counted; in the other phases it is captured: BROKEN with a RESUME target, or STRANDED (R116, R117,
R120), each with its events (fields that R117 does not name: log 20). -/
def Obligations.BreakInIsRecordedCountedOrCaptured : Prop :=
  (∀ s : State, s.resetLow = false → ∃ t, exec .breakIn s = .next t ∧ t.planner.wire = .none ∧
    (∀ l, ∃ d, Table.get? (t.link l).raw 3 = some (.brk d)) ∧
    t.prog = s.prog ∧ t.plate = s.plate ∧ t.catchSet = s.catchSet ∧ t.trace = s.trace ∧ SetupKept s t ∧
    HistoryKept s t ∧ Kept s t) ∧
  (∀ s : State, s.resetLow = false → s.run = none → ∃ t, exec .breakIn s = .next t ∧
    t.run = none ∧ t.planner = { s.planner with wire := .none } ∧
    ∀ l, Table.get? (t.link l).raw 3 =
      some (.brk ⟨none, none, none, s.pos, none, none, none, some s.planner.wire⟩)) ∧
  (∀ (run : Run) (s : State), s.resetLow = false → s.run = some run →
    (run.phase = .awaitThread ∨ run.phase = .broken ∨ run.phase = .stranded) →
    ∃ t, exec .breakIn s = .next t ∧ t.run = some { run with breaks := min 255 (run.breaks + 1) } ∧
      t.planner = { s.planner with wire := .none } ∧
      ∀ l, Table.get? (t.link l).raw 3 = some (.brk ⟨some run.number, some run.phase, none, s.pos, none, none,
        some (min 255 (run.breaks + 1)), none⟩)) ∧
  (∀ (run : Run) (s : State), s.resetLow = false → s.run = some run → s.planner.target = none →
    (run.phase = .leadIn ∨ run.phase = .approach ∨ run.phase = .cutting ∨ run.phase = .atLimit ∨ run.phase = .halted) →
    let record : BreakRecord := ⟨run.phase, s.prog.path, s.pos, s.prog.r, s.prog.a⟩
    let counted : State := { s with planner := { s.planner with wire := .none, kerf := some 0 } }
    let plan := choosePlan counted run record
    ∃ t r, exec .breakIn s = .next t ∧ t.run = some r ∧ r.brk = some record ∧ r.halt = none ∧
      r.breaks = min 255 (run.breaks + 1) ∧ r.plan = plan ∧ t.planner.kerf = some 0 ∧
      r.phase = (if plan.isSome then .broken else .stranded) ∧
      t.planner.target = plan.map (fun p =>
        ⟨nextTargetNumber s.planner.counter, .resume, p.place, run.contour, p.target, false⟩) ∧
      (∀ l, Table.get? (t.link l).raw 3 = some (.brk ⟨some run.number, some run.phase, some s.prog.path, s.pos,
        some s.prog.r, some s.prog.a, some (min 255 (run.breaks + 1)), none⟩)) ∧
      (plan.isSome = true → ∀ l, l = .motion ∨ l = .thread →
        Table.get? (t.link l).raw 4 = some (.target t.planner.target s.planner.lastStopped)) ∧
      (plan = none → ∀ l, l = .motion ∨ l = .cell →
        Table.get? (t.link l).raw 5 = some (.stranded run.number run.contour run.hole .noPlan)) ∧
      (∀ l, l = .motion ∨ l = .cell → Table.get? (t.link l).raw 0 = some (.runPhase run.number (.phase r.phase))) ∧
      r.limit = run.limit ∧ r.stop = run.stop ∧ r.c = run.c ∧ r.hole = run.hole ∧ r.warn = run.warn ∧
      t.sparkOk = false)

/-- The plan is the first of R118 that applies, with the fields of R119: the kerf where it is a loop break and
kerf_limit exceeds the attempts; else the run's own hole where it is OPEN; else, for a loop break, the lowest other
hole of the contour that is OPEN, allows the direction, has its lead-in cut for SKIM, and whose entry is within reach;
else none. -/
def Obligations.PlanIsTheFirstThatApplies : Prop :=
  ∀ (s : State) (run : Run) (brk : BreakRecord) (c : Contour), s.plate.holes.wf = true →
    s.contour? run.contour = some c →
    let point (q : Nat) : Point := c.pointOf (loopPos run.e0 run.dir c.g.loopLen q)
    let kerf : Prop := (∀ h, brk.path ≠ .leadIn h) ∧ s.planner.kerf.getD 0 < s.cfg.kerfLimit
    let own : Prop := ∃ hole, s.hole? run.hole = some hole ∧ hole.lv.state = .opened
    let fits (h : Nat) (hole : Hole) : Prop := h ≠ run.hole ∧ hole.owner = run.contour ∧ hole.lv.state = .opened ∧
      (hole.dirs = .both ∨ (hole.dirs = .fwd ∧ run.dir = .fwd) ∨ (hole.dirs = .rev ∧ run.dir = .rev)) ∧
      (run.kind = .skim → hole.lv.leadInCut = true) ∧ runDist run.e0 run.dir c.g.loopLen hole.g.entry ≤ brk.a
    let atHole (h : Nat) (hole : Hole) : Plan :=
      ⟨.hole h, none, hole.centre, brk.a, point brk.a, decide (hole.lv.leadInCut = false ∧ run.kind ≠ .skim)⟩
    (kerf → choosePlan s run brk = some ⟨.kerf, some (brk.a - s.cfg.backoff), point (brk.a - s.cfg.backoff), brk.a,
      point brk.a, false⟩) ∧
    (¬ kerf → ∀ hole, s.hole? run.hole = some hole → hole.lv.state = .opened →
      choosePlan s run brk = some (atHole run.hole hole)) ∧
    (¬ kerf → ¬ own → (∀ h, brk.path ≠ .leadIn h) → ∀ h hole, s.hole? h = some hole → fits h hole →
      (∀ k other, k < h → s.hole? k = some other → ¬ fits k other) →
      choosePlan s run brk = some (atHole h hole)) ∧
    (¬ kerf → ¬ own → ((∃ h, brk.path = .leadIn h) ∨ ∀ h hole, s.hole? h = some hole → ¬ fits h hole) →
      choosePlan s run brk = none)

/-! ### The plate map (chapter 1) -/

/-- PLATE_BEGIN in EMPTY and only there (R9); PLATE_DISARM in ARMED and only there (R14); PLATE_CLOSE with no run and no
target (R15). -/
def Obligations.PlateBeginDisarmAndClose : Prop :=
  (∀ (tag : Byte) (body : List Byte) (ident : Nat) (s : State), Serves .cell .plateBegin s →
    parseWord body = some ident →
    (s.plate.state = .empty → exec (.plateBegin tag body) s = .next (replied .cell .plateBegin tag [0]
      (drive (post (.plateState .loading (some ident)) { s with
        plate := { s.plate with state := .loading, ident := some ident }
        trace := { s.trace with fifo := [], dropped := 0 } })))) ∧
    (s.plate.state ≠ .empty → exec (.plateBegin tag body) s = .next (replied .cell .plateBegin tag [0x01] s))) ∧
  (∀ (tag : Byte) (s : State), Serves .cell .plateDisarm s →
    (s.plate.state = .armed → exec (.plateDisarm tag []) s = .next (replied .cell .plateDisarm tag [0]
      (drive (post (.plateState .loading s.plate.ident) { s with
        plate := { s.plate with
          state := .loading
          contours := s.plate.contours.map (fun e => (e.1, { e.2 with geom := none, live := none }))
          holes := s.plate.holes.map (fun e => (e.1, { e.2 with geom := none, live := none })) }
        catchSet := [] })))) ∧
    (s.plate.state ≠ .armed → exec (.plateDisarm tag []) s = .next (replied .cell .plateDisarm tag [0x01] s))) ∧
  (∀ (tag : Byte) (s : State), Serves .cell .plateClose s →
    (s.plate.state = .loading ∨ s.plate.state = .armed ∨ s.plate.state = .active) →
    (s.run = none → s.planner.target = none → exec (.plateClose tag []) s = .next (replied .cell .plateClose tag [0]
      (drive (post (.plateState .empty none) { s with
        plate := { s.plate with
          state := .empty, ident := none, contours := [], holes := [], errors := [], more := false }
        catchSet := [] }))) ∧
      ({ s.plate with contours := [], holes := [] } : Plate).free = 4096) ∧
    ((s.run.isSome = true ∨ s.planner.target.isSome = true) →
      exec (.plateClose tag []) s = .next (replied .cell .plateClose tag [0x04] s))) ∧
  (∀ (tag : Byte) (s : State), Serves .cell .plateClose s →
    (s.plate.state = .empty ∨ s.plate.state = .validating) →
    exec (.plateClose tag []) s = .next (replied .cell .plateClose tag [0x01] s))

/-- In LOADING, CONTOUR_LOAD defines a contour with an empty vertex list (R4), VERTEX_APPEND appends its vertices in
order (R6), HOLE_LOAD defines a hole (R8), each in its one entry of the map. Each is refused by the first of its checks
that fails and then changes nothing; VERTEX_APPEND and HOLE_LOAD carry their fields whatever the status (R160), the
vertex count of an undefined contour absent (log 28). -/
def Obligations.MapLoadingDefinesEntries : Prop :=
  (∀ (tag : Byte) (body : List Byte) (q : ContourLoadReq) (cls : RetClass) (s : State), Serves .cell .contourLoad s →
    parseContourLoad body = some q → s.plate.state = .loading → RetClass.ofCode q.cls = some cls → q.index ≤ 63 →
    q.tabs.length ≤ 4 →
    let p : Plate := { s.plate with
      contours := Table.set s.plate.contours q.index ⟨cls, q.width, [], q.tabs, none, none⟩ }
    exec (.contourLoad tag body) s = .next (replied .cell .contourLoad tag
      (0 :: (natField 2 p.free ++ natField 1 (p.holesOf q.index).length)) { s with plate := p })) ∧
  (∀ (tag : Byte) (body : List Byte) (q : VertexAppendReq) (c : Contour) (s : State), Serves .cell .vertexAppend s →
    parseVertexAppend body = some q → s.plate.state = .loading → q.contour ≤ 63 → 1 ≤ q.points.length →
    q.points.length ≤ 32 → s.contour? q.contour = some c → c.vertices.length + q.points.length ≤ 1024 →
    q.points.length ≤ s.plate.free →
    ∃ p : Plate, p = { s.plate with
        contours := Table.set s.plate.contours q.contour { c with vertices := c.vertices ++ q.points } } ∧
      exec (.vertexAppend tag body) s = .next (replied .cell .vertexAppend tag
        (0 :: (natField 2 (c.vertices.length + q.points.length) ++ natField 2 p.free)) { s with plate := p })) ∧
  (∀ (tag : Byte) (body : List Byte) (q : HoleLoadReq) (loc : Location) (dirs : Dirs) (s : State),
    Serves .cell .holeLoad s → parseHoleLoad body = some q → s.plate.state = .loading →
    Location.ofCode q.loc = some loc → Dirs.ofCode q.dirs = some dirs → q.index ≤ 127 → q.owner ≤ 63 →
    1 ≤ q.leadIn.length → q.leadIn.length ≤ 4 → s.plate.othersOf q.index q.owner < 4 →
    q.leadIn.length ≤ s.plate.freeFor q.index →
    let p : Plate := { s.plate with
      holes := Table.set s.plate.holes q.index ⟨q.owner, loc, dirs, q.centre, q.leadIn, none, none⟩ }
    exec (.holeLoad tag body) s = .next (replied .cell .holeLoad tag
      (0 :: (natField 2 p.free ++ natField 1 (p.holesOf q.owner).length)) { s with plate := p })) ∧
  (∀ (tag : Byte) (body : List Byte) (q : ContourLoadReq) (s : State), Serves .cell .contourLoad s →
    parseContourLoad body = some q →
    let refused (status : Byte) : Prop :=
      exec (.contourLoad tag body) s = .next (replied .cell .contourLoad tag [status] s)
    (s.plate.state ≠ .loading → refused 0x01) ∧
    (s.plate.state = .loading → (63 < q.index ∨ 2 < q.cls ∨ 4 < q.tabs.length) → refused 0x02)) ∧
  (∀ (tag : Byte) (body : List Byte) (q : VertexAppendReq) (s : State), Serves .cell .vertexAppend s →
    parseVertexAppend body = some q →
    let refused (status : Byte) : Prop := exec (.vertexAppend tag body) s = .next (replied .cell .vertexAppend tag
      (status :: ((match s.contour? q.contour with
        | some c => natField 2 c.vertices.length
        | none => [0xFF, 0xFF]) ++ natField 2 s.plate.free)) s)
    (s.plate.state ≠ .loading → refused 0x01) ∧
    (s.plate.state = .loading → (63 < q.contour ∨ q.points = [] ∨ 32 < q.points.length) → refused 0x02) ∧
    (s.plate.state = .loading → q.contour ≤ 63 → 1 ≤ q.points.length → q.points.length ≤ 32 →
      (s.contour? q.contour = none → refused 0x01) ∧
      ∀ c, s.contour? q.contour = some c →
        (c.vertices ≠ [] → 1024 < c.vertices.length + q.points.length → refused 0x02) ∧
        (c.vertices.length + q.points.length ≤ 1024 → s.plate.free < q.points.length → refused 0x03))) ∧
  (∀ (tag : Byte) (body : List Byte) (q : HoleLoadReq) (s : State), Serves .cell .holeLoad s →
    parseHoleLoad body = some q →
    let refused (status : Byte) : Prop := exec (.holeLoad tag body) s = .next (replied .cell .holeLoad tag
      (status :: (natField 2 s.plate.free ++ natField 1 (s.plate.holesOf q.owner).length)) s)
    let known : Prop := q.index ≤ 127 ∧ q.owner ≤ 63 ∧ q.loc ≤ 1 ∧ q.dirs ≤ 2 ∧ 1 ≤ q.leadIn.length ∧
      q.leadIn.length ≤ 4
    (s.plate.state ≠ .loading → refused 0x01) ∧ (s.plate.state = .loading → ¬ known → refused 0x02) ∧
    (s.plate.state = .loading → known →
      (4 ≤ s.plate.othersOf q.index q.owner ∨ s.plate.freeFor q.index < q.leadIn.length) → refused 0x03))

/-- PLATE_ARM starts a validation with the entry_tol in force and holds its reply, and outside LOADING is refused STATE
(R10); a completed validation makes the plate ARMED with every computed and live field (R11), or LOADING with the first
eight errors, which the reply carries (R12; the errors and the fields: ValidationFindsTheErrorsOfTheRules,
ComputedFieldsFollowTheRules). -/
def Obligations.PlateArmAndValidation : Prop :=
  (∀ (tag : Byte) (s : State), Serves .cell .plateArm s → s.plate.state = .loading →
    exec (.plateArm tag []) s = .next (holdReply .cell 0x34 tag
      (drive (post (.plateState .validating s.plate.ident) { s with plate := { s.plate with
        state := .validating, errors := [], more := false, entryTol := s.cfg.entryTol
        validation := some ((50 + 2 * s.plate.used + s.plate.projections) * 10) } })))) ∧
  (∀ (tag : Byte) (s : State), Serves .cell .plateArm s → s.plate.state ≠ .loading →
    exec (.plateArm tag []) s = .next (replied .cell .plateArm tag [0x01] s)) ∧
  (∀ s : State, s.plate.state = .validating → mapErrors s.plate = [] →
    ∃ t, exec .validationComplete s = .next t ∧ t.plate = s.plate.passed ∧ t.plate.state = .armed ∧
      (∀ i c, s.contour? i = some c → t.contour? i = some { c with
        geom := some c.computed, live := some ⟨[], none, .planned, false, false, false, 0⟩ }) ∧
      (∀ i h, s.hole? i = some h → t.hole? i = some { h with
        geom := some (h.computed s.plate.contours), live := some ⟨.opened, 0, false⟩ }) ∧
      (∀ k tag n, s.cell.busy = some ⟨k, tag, none, n⟩ →
        t.cell.busy.bind (·.reply) = some (frameOf (k + 0x80) tag [0, 0])) ∧
      (s.cell.busy = none → t.cell.busy = none) ∧
      Table.get? t.motion.raw 12 = some (.plateState .armed s.plate.ident) ∧
      t.run = s.run ∧ t.prog = s.prog ∧ t.planner = s.planner ∧ t.catchSet = s.catchSet ∧ t.trace = s.trace ∧
      SetupKept s t ∧ HistoryKept s t ∧ Kept s t) ∧
  (∀ s : State, s.plate.state = .validating → mapErrors s.plate ≠ [] →
    ∃ t, exec .validationComplete s = .next t ∧
      t.plate = { s.plate with
        state := .loading, validation := none, errors := (mapErrors s.plate).take 8
        more := decide (8 < (mapErrors s.plate).length) } ∧
      (∀ k tag n, s.cell.busy = some ⟨k, tag, none, n⟩ →
        t.cell.busy.bind (·.reply) = some (frameOf (k + 0x80) tag (0x02 :: (natField 1 t.plate.errors.length ++
          [if t.plate.more then 1 else 0] ++ t.plate.errors.flatMap (fun e =>
            e.code.code :: (optNat 1 e.contour ++ optNat 1 e.hole ++ optNat 2 e.item ++ optNat 1 e.item2)))))) ∧
      (s.cell.busy = none → t.cell.busy = none) ∧
      Table.get? t.motion.raw 12 = some (.plateState .loading s.plate.ident) ∧
      t.run = s.run ∧ t.prog = s.prog ∧ t.planner = s.planner ∧ t.catchSet = s.catchSet ∧ t.trace = s.trace ∧
      SetupKept s t ∧ HistoryKept s t ∧ Kept s t)

/-- What a validation finds is exactly what R16 to R20 call an error, with the fields of R16, over the computed fields
of ComputedFieldsFollowTheRules; no error is found twice. The list follows R16's scan: the map, then the contours by
index, then the holes by index, each through its checks in order (order within a contour and a hole: log 35). -/
def Obligations.ValidationFindsTheErrorsOfTheRules : Prop :=
  ∀ p : Plate, p.contours.wf = true → p.holes.wf = true →
    let looped (k : Nat) (c : Contour) : Prop := Table.get? p.contours k = some c ∧ 3 ≤ c.vertices.length
    let placed (c : Contour) (j : Nat) (t : Span) : Prop := ∃ d, c.tabs[j]? = some d ∧ TabLies c d t
    let owned (k h : Nat) (c : Contour) (hole : Hole) : Prop :=
      Table.get? p.holes h = some hole ∧ hole.owner = k ∧ Table.get? p.contours k = some c
    (∀ e : MapError, e ∈ mapErrors p ↔ (match e with
      | ⟨.noContour, none, none, none, none⟩ => p.contours = []
      | ⟨.width, some k, none, none, none⟩ =>
        ∃ c, Table.get? p.contours k = some c ∧ c.cls ≠ .drop ∧ c.width = 0
      | ⟨.classTabs, some k, none, none, none⟩ =>
        ∃ c, Table.get? p.contours k = some c ∧ (c.cls = .drop ↔ c.tabs ≠ [])
      | ⟨.fewVertices, some k, none, none, none⟩ =>
        ∃ c, Table.get? p.contours k = some c ∧ c.vertices.length < 3
      | ⟨.zeroSegment, some k, none, some i, none⟩ => ∃ c, looped k c ∧ c.computed.segLen[i]? = some 0
      | ⟨.loopLong, some k, none, none, none⟩ => ∃ c, looped k c ∧ 1073741823 < c.computed.loopLen
      | ⟨.tabPlace, some k, none, some j, none⟩ =>
        ∃ c, looped k c ∧ j < c.tabs.length ∧ ∀ t, ¬ placed c j t
      | ⟨.tabNarrow, some k, none, some j, none⟩ => ∃ c t, looped k c ∧ placed c j t ∧ t.hi - t.lo < c.width
      | ⟨.tabOverlap, some k, none, some i, some j⟩ =>
        ∃ c t u, looped k c ∧ j < i ∧ placed c j t ∧ placed c i u ∧
          ((u.lo ≤ t.hi ∧ t.lo ≤ u.hi) ∨ (t.lo = 0 ∧ u.hi = c.computed.loopLen) ∨
            (u.lo = 0 ∧ t.hi = c.computed.loopLen))
      | ⟨.noHole, some k, none, none, none⟩ =>
        (∃ c, Table.get? p.contours k = some c) ∧ ∀ h hole, Table.get? p.holes h = some hole → hole.owner ≠ k
      | ⟨.holeOwner, none, some h, none, none⟩ =>
        ∃ hole, Table.get? p.holes h = some hole ∧ Table.get? p.contours hole.owner = none
      | ⟨.leadinZero, some k, some h, some j, none⟩ =>
        ∃ c hole, owned k h c hole ∧ (hole.computed p.contours).segLen[j]? = some 0
      | ⟨.entryOff, some k, some h, none, none⟩ =>
        ∃ c hole i, owned k h c hole ∧ EntrySegment c hole i ∧ p.entryTol < entryDeviation c hole i
      | ⟨.entryInTab, some k, some h, none, none⟩ =>
        ∃ c hole i j t, owned k h c hole ∧ EntrySegment c hole i ∧ placed c j t ∧
          let e := (hole.computed p.contours).entry
          (t.lo ≤ e ∧ e ≤ t.hi) ∨ (e = 0 ∧ t.hi = c.computed.loopLen)
      | _ => False)) ∧
    let rank (e : MapError) : List Nat :=
      let k := e.contour.getD 0
      let h := e.hole.getD 0
      let i := e.item.getD 0
      match e.code with
      | .noContour => [0]
      | .width => [1, k, 0]
      | .classTabs => [1, k, 1]
      | .fewVertices => [1, k, 2]
      | .zeroSegment => [1, k, 3, i]
      | .loopLong => [1, k, 4]
      | .tabPlace => [1, k, 5, i]
      | .tabNarrow => [1, k, 6, i]
      | .tabOverlap => [1, k, 7, e.item2.getD 0, i]
      | .noHole => [1, k, 8]
      | .holeOwner => [2, h, 0]
      | .leadinZero => [2, h, 1, i]
      | .entryOff => [2, h, 2]
      | .entryInTab => [2, h, 3]
    ((mapErrors p).map rank).Pairwise (· < ·)

/-- The computed fields. A length is the integer root of the sum of squares, the greatest whole number whose square does
not exceed it; an offset is the sum of the lengths before it, Lc and Lin the sum of all (R17, R19). Where every declared
tab lies on the loop, the tabs are where they lie (R18). The entry is on the segment of least entry deviation, the
lowest of several, at its offset plus along clamped to it; at Lc it is at vertex 0 (R20). -/
def Obligations.ComputedFieldsFollowTheRules : Prop :=
  (∀ n : Nat, isqrt n * isqrt n ≤ n ∧ n < (isqrt n + 1) * (isqrt n + 1)) ∧
  (let root (a b : Point) : Nat := isqrt ((b.x - a.x) * (b.x - a.x) + (b.y - a.y) * (b.y - a.y)).toNat
   (∀ c : Contour,
      let g := c.computed
      let n := c.vertices.length
      g.segLen.length = n ∧ g.segOff.length = n ∧ g.loopLen = g.segLen.sum ∧
      (∀ (i : Nat) (a b : Point), c.vertices[i]? = some a → c.vertices[(i + 1) % n]? = some b →
        g.segLen[i]? = some (root a b) ∧ g.segOff[i]? = some (g.segLen.take i).sum) ∧
      (∀ tabs : List Span, tabs.length = c.tabs.length →
        (∀ (j : Nat) (d : DeclTab) (t : Span), c.tabs[j]? = some d → tabs[j]? = some t → TabLies c d t) →
        g.tabs = tabs)) ∧
   (∀ (contours : Table Contour) (h : Hole),
      let g := h.computed contours
      g.segLen.length = h.leadIn.length ∧ g.lin = g.segLen.sum ∧
      (∀ (j : Nat) (a b : Point), (h.centre :: h.leadIn)[j]? = some a → h.leadIn[j]? = some b →
        g.segLen[j]? = some (root a b)) ∧
      (∀ c i, Table.get? contours h.owner = some c → EntrySegment c h i →
        let leg := loopSegment c i
        let e := (c.computed.segLen.take i).sum + (max 0 (min (leg.len : Int) (leg.project h.tip).along)).toNat
        (e = c.computed.loopLen → g.entrySeg = 0 ∧ g.entry = 0) ∧
        (e ≠ c.computed.loopLen → g.entrySeg = i ∧ g.entry = e))))

/-! ### Catches, slugs, holes (chapters 7 and 8) -/

/-- CATCH_ARM adds the contour to the catch set, CATCH_DISARM takes it out; each evaluates the contour, and computes the
limits of the open run again where it is on the contour, with R68's effects and CATCH_NEEDED (R136, R137, R95, R93). A
sample in progress is abandoned then (R40). The reply carries the contour's state and the size of the set, and
CATCH_ARM's the new limits (log 31). Each is refused by the first of its checks that fails; a contour already in the
set, or not in it, is answered OK and nothing changes. -/
def Obligations.CatchArmAndDisarm : Prop :=
  (∀ (tag b : Byte) (c : Contour) (v : ContourLive) (s : State), Serves .cell .catchArm s → s.plate.state.live = true →
    b.toNat ≤ 63 → s.contour? b.toNat = some c → c.live = some v →
    v.state ≠ .removed → v.state ≠ .void → v.state ≠ .loose → b.toNat ∉ s.catchSet → s.catchSet.length ≤ 3 →
    ∃ t, exec (.catchArm tag [b]) s = .next t ∧
      (∀ k, k ∈ t.catchSet ↔ k = b.toNat ∨ k ∈ s.catchSet) ∧ t.catchSet.length = s.catchSet.length + 1 ∧
      t.contour? b.toNat = some { c with live := some { v with state := c.evaluated true s.cfg.permitLead } } ∧
      t.cell.busy.bind (·.reply) = some (frameOf 0xBB tag ([0, (c.evaluated true s.cfg.permitLead).code] ++
        natField 1 t.catchSet.length ++ (match t.run with
          | some r => if r.contour = b.toNat then
              natField 4 r.limit ++ intField 4 r.stop ++ [if r.final then 1 else 0, if r.holdback then 1 else 0]
            else []
          | none => []))) ∧
      (∀ i, i ≠ b.toNat → t.contour? i = s.contour? i) ∧
      (∀ run, s.run = some run → run.contour = b.toNat →
        LimitsTaken run (computeLimits run.kind run.e0 run.dir c true s.cfg.permitLead s.prog.a) s t ∧
        ∀ p k b, s.sampling = .inProgress p k b → t.sampling = .abandoned ∧
          t.gap.presence = (s.gap.presence || b)) ∧
      (∀ run, s.run = some run → run.contour ≠ b.toNat → t.run = some run) ∧ (s.run = none → t.run = none) ∧
      t.prog = s.prog ∧ t.planner = s.planner ∧ t.trace = s.trace ∧ SetupKept s t ∧ HistoryKept s t ∧ Kept s t) ∧
  (∀ (tag b : Byte) (c : Contour) (v : ContourLive) (s : State), Serves .cell .catchDisarm s →
    s.plate.state.live = true → b.toNat ≤ 63 → s.contour? b.toNat = some c → c.live = some v →
    v.state ≠ .free → (∀ run, s.run = some run → run.contour = b.toNat → run.final = false) → b.toNat ∈ s.catchSet →
    ∃ t, exec (.catchDisarm tag [b]) s = .next t ∧
      (∀ k, k ∈ t.catchSet ↔ k ≠ b.toNat ∧ k ∈ s.catchSet) ∧
      t.contour? b.toNat = some { c with live := some { v with state := c.evaluated false s.cfg.permitLead } } ∧
      t.cell.busy.bind (·.reply) = some (frameOf 0xBC tag
        ([0, (c.evaluated false s.cfg.permitLead).code] ++ natField 1 t.catchSet.length)) ∧
      (∀ i, i ≠ b.toNat → t.contour? i = s.contour? i) ∧
      (∀ run, s.run = some run → run.contour = b.toNat →
        LimitsTaken run (computeLimits run.kind run.e0 run.dir c false s.cfg.permitLead s.prog.a) s t ∧
        ∀ p k b, s.sampling = .inProgress p k b → t.sampling = .abandoned ∧
          t.gap.presence = (s.gap.presence || b)) ∧
      (∀ run, s.run = some run → run.contour ≠ b.toNat → t.run = some run) ∧ (s.run = none → t.run = none) ∧
      t.prog = s.prog ∧ t.planner = s.planner ∧ t.trace = s.trace ∧ SetupKept s t ∧ HistoryKept s t ∧ Kept s t) ∧
  (∀ (tag b : Byte) (s : State), Serves .cell .catchArm s →
    let answers (body : List Byte) : Prop :=
      exec (.catchArm tag [b]) s = .next (replied .cell .catchArm tag body s)
    (s.plate.state.live = false → answers [0x01]) ∧
    (s.plate.state.live = true → (63 < b.toNat ∨ s.contour? b.toNat = none) → answers [0x02]) ∧
    (∀ c v, s.plate.state.live = true → b.toNat ≤ 63 → s.contour? b.toNat = some c → c.live = some v →
      let lost : Prop := v.state = .removed ∨ v.state = .void ∨ v.state = .loose
      (lost → answers [0x01]) ∧
      (¬ lost → b.toNat ∈ s.catchSet → answers ([0, v.state.code] ++ natField 1 s.catchSet.length)) ∧
      (¬ lost → b.toNat ∉ s.catchSet → 4 ≤ s.catchSet.length → answers [0x03]))) ∧
  (∀ (tag b : Byte) (s : State), Serves .cell .catchDisarm s →
    let answers (body : List Byte) : Prop :=
      exec (.catchDisarm tag [b]) s = .next (replied .cell .catchDisarm tag body s)
    (s.plate.state.live = false → answers [0x01]) ∧
    (s.plate.state.live = true → (63 < b.toNat ∨ s.contour? b.toNat = none) → answers [0x02]) ∧
    (∀ c v, s.plate.state.live = true → b.toNat ≤ 63 → s.contour? b.toNat = some c → c.live = some v →
      let inUse : Prop := ∃ run, s.run = some run ∧ run.contour = b.toNat ∧ run.final = true
      (v.state = .free → answers [0x0A]) ∧
      (v.state ≠ .free → inUse → answers [0x0B]) ∧
      (v.state ≠ .free → ¬ inUse → b.toNat ∉ s.catchSet →
        answers ([0, v.state.code] ++ natField 1 s.catchSet.length))))

/-- SLUG_REMOVED sets the removal mark (R138), CONTOUR_VOID the void mark (R139); each takes the contour out of the
catch set and evaluates it, with CONTOUR_STATE (R134, R140). HOLE_RESET opens a BLOCKED hole and sets its count to 0
(R129). Each is answered, and refused by the first of its checks that fails. -/
def Obligations.SlugRemovedContourVoidAndHoleReset : Prop :=
  (∀ (tag b : Byte) (c : Contour) (v : ContourLive) (s : State), Serves .cell .slugRemoved s →
    s.plate.state.live = true → b.toNat ≤ 63 → s.contour? b.toNat = some c → c.live = some v →
    (v.state = .free ∨ v.state = .loose) → (∀ run, s.run = some run → run.contour ≠ b.toNat) →
    ∃ t d, exec (.slugRemoved tag [b]) s = .next t ∧ t.contour? b.toNat = some d ∧
      d = { c with live := some { v with
        removed := true, state := d.evaluated false s.cfg.permitLead } } ∧
      (∀ i, i ≠ b.toNat → t.contour? i = s.contour? i) ∧ t.catchSet = s.catchSet.filter (fun k => k != b.toNat) ∧
      t.cell.busy.bind (·.reply) = some (frameOf 0xBD tag (0 :: natField 1 t.catchSet.length)) ∧
      (∀ l, l = .motion ∨ l = .cell → d.lv.state ≠ v.state →
        ∃ m, Table.get? (t.link l).raw 7 = some (.contourState m) ∧ Table.get? m b.toNat = some d.lv.state) ∧
      t.run = s.run ∧ t.prog = s.prog ∧ t.planner = s.planner ∧ t.trace = s.trace ∧ SetupKept s t ∧
      HistoryKept s t ∧ Kept s t) ∧
  (∀ (tag b : Byte) (c : Contour) (v : ContourLive) (s : State), Serves .cell .contourVoid s →
    s.plate.state.live = true → b.toNat ≤ 63 → s.contour? b.toNat = some c → c.live = some v →
    (v.state = .planned ∨ v.state = .partly ∨ v.state = .held ∨ v.state = .suspect) →
    (∀ run, s.run = some run → run.contour ≠ b.toNat) →
    ∃ t, exec (.contourVoid tag [b]) s = .next t ∧
      t.contour? b.toNat = some { c with live := some { v with voided := true, state := .void } } ∧
      (∀ i, i ≠ b.toNat → t.contour? i = s.contour? i) ∧ t.plate.holes = s.plate.holes ∧
      t.catchSet = s.catchSet.filter (fun k => k != b.toNat) ∧
      t.cell.busy.bind (·.reply) = some (frameOf 0xBE tag [0]) ∧
      (∀ l, l = .motion ∨ l = .cell →
        ∃ m, Table.get? (t.link l).raw 7 = some (.contourState m) ∧ Table.get? m b.toNat = some .void) ∧
      t.run = s.run ∧ t.prog = s.prog ∧ t.planner = s.planner ∧ t.trace = s.trace ∧ SetupKept s t ∧
      HistoryKept s t ∧ Kept s t) ∧
  (∀ (tag b : Byte) (h : Hole) (v : HoleLive) (s : State), Serves .cell .holeReset s → s.plate.state.live = true →
    b.toNat ≤ 127 → s.hole? b.toNat = some h → h.live = some v →
    let now : HoleState := if v.state = .blocked then .opened else v.state
    exec (.holeReset tag [b]) s = .next (replied .cell .holeReset tag [0, now.code, 0]
      { s with plate := { s.plate with
        holes := Table.set s.plate.holes b.toNat { h with live := some { v with fails := 0, state := now } } } })) ∧
  (∀ (tag b : Byte) (s : State), Serves .cell .slugRemoved s →
    let refused (status : Byte) : Prop :=
      exec (.slugRemoved tag [b]) s = .next (replied .cell .slugRemoved tag [status] s)
    let onIt : Prop := ∃ run, s.run = some run ∧ run.contour = b.toNat
    (s.plate.state.live = false → refused 0x01) ∧
    (s.plate.state.live = true → (63 < b.toNat ∨ s.contour? b.toNat = none) → refused 0x02) ∧
    (∀ c v, s.plate.state.live = true → b.toNat ≤ 63 → s.contour? b.toNat = some c → c.live = some v →
      (onIt → refused 0x04) ∧ (¬ onIt → v.state ≠ .free → v.state ≠ .loose → refused 0x01))) ∧
  (∀ (tag b : Byte) (s : State), Serves .cell .contourVoid s →
    let refused (status : Byte) : Prop :=
      exec (.contourVoid tag [b]) s = .next (replied .cell .contourVoid tag [status] s)
    let onIt : Prop := ∃ run, s.run = some run ∧ run.contour = b.toNat
    (s.plate.state.live = false → refused 0x01) ∧
    (s.plate.state.live = true → (63 < b.toNat ∨ s.contour? b.toNat = none) → refused 0x02) ∧
    (∀ c v, s.plate.state.live = true → b.toNat ≤ 63 → s.contour? b.toNat = some c → c.live = some v →
      (onIt → refused 0x04) ∧
      (¬ onIt → (v.state = .free ∨ v.state = .loose ∨ v.state = .removed ∨ v.state = .void) → refused 0x01))) ∧
  (∀ (tag b : Byte) (s : State), Serves .cell .holeReset s →
    let refused (status : Byte) : Prop :=
      exec (.holeReset tag [b]) s = .next (replied .cell .holeReset tag [status] s)
    (s.plate.state.live = false → refused 0x01) ∧ (s.plate.state.live = true → 127 < b.toNat → refused 0x02) ∧
    (s.plate.state.live = true → b.toNat ≤ 127 → s.hole? b.toNat = none → refused 0x01))

/-- The state of a contour after an evaluation is the first of R133's list that applies. -/
def Obligations.EvaluationFollowsTheTable : Prop :=
  ∀ (c : Contour) (armed : Bool) (lead : Nat) (v : ContourLive), c.live = some v →
    let a := c.answers lead
    (v.voided = true → c.evaluated armed lead = .void) ∧
    (v.voided = false → a.full = true → v.removed = true → c.evaluated armed lead = .removed) ∧
    (v.voided = false → a.full = true → v.removed = false → armed = true → c.evaluated armed lead = .free) ∧
    (v.voided = false → a.full = true → v.removed = false → armed = false → c.evaluated armed lead = .loose) ∧
    (v.voided = false → a.full = false → v.coverage = [] → c.evaluated armed lead = .planned) ∧
    (v.voided = false → a.full = false → v.coverage ≠ [] →
      ((∀ t ∈ uncovered c.g.loopLen v.coverage, isRemnant c.g.loopLen lead c.protectedTabs t = true) →
        c.evaluated armed lead =
          if v.tilt = true ∨ (∃ t ∈ uncovered c.g.loopLen v.coverage, t.len < c.width) then .suspect else .held) ∧
      ((∃ t ∈ uncovered c.g.loopLen v.coverage, isRemnant c.g.loopLen lead c.protectedTabs t = false) →
        c.evaluated armed lead = .partly))

/-- The remnant test of R96 for a stretch and a tab, cell by cell: they share a cell, and at most permit_lead cells of
the stretch precede the tab's first cell, and as many follow its last. A stretch that meets the tab at both ends has
the loop less the tab on each side (the model's choice, log 18). One protected tab is enough, and the shortest remnant
length is the least of the remnants' lengths. -/
def Obligations.RemnantTestCountsCellsBeyondTheTab : Prop :=
  (∀ (loopLen lead : Nat) (t tab : Stretch), t.first < loopLen → 0 < t.len → t.len ≤ loopLen →
    tab.first < loopLen → 0 < tab.len → tab.len ≤ loopLen →
    let shared (k : Nat) : Prop := ∃ j, j < tab.len ∧ (t.first + k) % loopLen = (tab.first + j) % loopLen
    ((∀ k, k < t.len → ¬ shared k) → isRemnant loopLen lead [tab] t = false) ∧
    (∀ p q, p < q → q ≤ t.len → (∀ k, k < t.len → (shared k ↔ p ≤ k ∧ k < q)) →
      (isRemnant loopLen lead [tab] t = true ↔ p ≤ lead ∧ t.len - q ≤ lead)) ∧
    (∀ p q, 0 < p → p < q → q < t.len → (∀ k, k < t.len → (shared k ↔ k < p ∨ q ≤ k)) →
      (isRemnant loopLen lead [tab] t = true ↔ loopLen - tab.len ≤ lead))) ∧
  (∀ (loopLen lead : Nat) (tabs : List Stretch) (t : Stretch),
    isRemnant loopLen lead tabs t = true ↔ ∃ tab ∈ tabs, isRemnant loopLen lead [tab] t = true) ∧
  (∀ (c : Contour) (lead n : Nat),
    let remnant (t : Stretch) : Prop :=
      t ∈ uncovered c.g.loopLen c.lv.coverage ∧ isRemnant c.g.loopLen lead c.protectedTabs t = true
    ((c.answers lead).shortest = some n ↔ (∃ t, remnant t ∧ t.len = n) ∧ ∀ t, remnant t → n ≤ t.len))

/-! ### Gap Monitor, configuration, trace (chapters 6 and 11) -/

/-- FAULT_CLEAR clears the latch and the stray count in every state, reports both as they were, and changes nothing else
but what the permits' conditions give (R110). -/
def Obligations.FaultClearClearsViolation : Prop :=
  ∀ (tag : Byte) (s : State), Serves .cell .faultClear s →
    exec (.faultClear tag []) s = .next (replied .cell .faultClear tag
      (0 :: ((if s.gap.violation then 1 else 0) :: natField 2 s.gap.stray))
      (drive { s with gap := { s.gap with violation := false, stray := 0 } }))

/-- A pulse on SPARK_IN: interval and window (R99, R100), presence and totals of the run and its contour (R104), stray
and violation latch with its event (R108, R109). -/
def Obligations.SparkInPulseCounts : Prop :=
  ∀ s : State, s.resetLow = false → Driven s →
    let stray := if s.sparkOk then s.gap.stray else min 65535 (s.gap.stray + 1)
    let latched : Bool := s.gap.violation || (!s.sparkOk && decide (s.cfg.strayLimit < stray))
    ∃ t, exec .sparkInPulse s = .next t ∧
      t.gap.interval = 0 ∧ t.gap.n = min 65535 (s.gap.n + 1) ∧
      (s.gap.interval ≠ 65535 →
        t.gap.m = min 65535 (s.gap.m + 1) ∧ t.gap.sum = min 4294967295 (s.gap.sum + s.gap.interval)) ∧
      (s.gap.interval = 65535 → t.gap.m = s.gap.m ∧ t.gap.sum = s.gap.sum) ∧
      t.gap.presence = true ∧ t.gap.pulseTotal = min 4294967295 (s.gap.pulseTotal + 1) ∧
      t.gap.stray = stray ∧ t.gap.violation = latched ∧
      (s.gap.violation = false → latched = true → ∀ l,
        ∃ run, Table.get? (t.link l).raw 10 = some (.violation stray run s.device) ∧
          run.map (·.1) = s.run.map (·.number)) ∧
      (s.run = none → t.run = none ∧ t.trace = s.trace ∧ t.plate = s.plate) ∧
      (∀ run, s.run = some run → ∃ r, t.run = some r ∧ r.discharges = min 4294967295 (run.discharges + 1) ∧
        r.number = run.number ∧ r.c = run.c ∧ r.limit = run.limit ∧ r.stop = run.stop ∧ r.warn = run.warn ∧
        r.shorts = run.shorts ∧ t.trace = { s.trace with tally := min 255 (s.trace.tally + 1) } ∧
        (∀ c v, s.contour? run.contour = some c → c.live = some v → t.contour? run.contour =
          some { c with live := some { v with discharges := min 4294967295 (v.discharges + 1) } }) ∧
        (∀ i, i ≠ run.contour → t.contour? i = s.contour? i) ∧
        (latched = s.gap.violation → r.phase = run.phase ∧ r.halt = run.halt) ∧
        (s.gap.violation = false → latched = true → run.phase.tracking = true →
          r.phase = .halted ∧ r.halt = some ⟨⟨false, false, false, false, true⟩, run.phase⟩)) ∧
      t.prog = s.prog ∧ t.planner = s.planner ∧ t.catchSet = s.catchSet ∧ t.plate.holes = s.plate.holes ∧
      SetupKept s t ∧ HistoryKept s t ∧ Kept s t

/-- SHORT_IN rises and falls, and an episode qualifies (R105); a pinch marks its episode, halts a run that can be halted
(R106, R73), is added to the causes of a halted one with HALT posted again (R74), and sets the tilt mark on R107's two
conditions. -/
def Obligations.ShortsAndPinch : Prop :=
  (∀ s : State, s.shortIn = false → exec .shortInRise s = .next { s with
    shortIn := true
    gap := { s.gap with episode := if s.run.isSome then some ⟨0, false, false⟩ else s.gap.episode } }) ∧
  (∀ s : State, exec .shortInFall s = .next { s with shortIn := false, gap := { s.gap with episode := none } }) ∧
  (∀ (run : Run) (e : Episode) (s : State), s.run = some run → s.gap.episode = some e → e.qualified = false →
    exec .shortQualify s = .next { s with
      gap := { s.gap with episode := some { e with qualified := true }, shortSince := true }
      run := some { run with shorts := if s.gap.settle = none then min 65535 (run.shorts + 1) else run.shorts } }) ∧
  (∀ (run : Run) (e : Episode) (c : Contour) (v : ContourLive) (s : State), s.run = some run →
    s.gap.episode = some e → e.pinched = false → s.contour? run.contour = some c → c.live = some v →
    let a := c.answers s.cfg.permitLead
    let needed : Bool := !a.full && (run.kind == .release || (!a.empty && a.allRemnants))
    ∃ t r d w, exec .pinch s = .next t ∧ t.gap.episode = some { e with pinched := true } ∧
      t.run = some r ∧ t.contour? run.contour = some d ∧ d.live = some w ∧
      w.tilt = (v.tilt || needed) ∧ w.coverage = v.coverage ∧
      w.state = (if needed = true ∧ v.tilt = false then d.evaluated (s.catchArmed run.contour) s.cfg.permitLead
        else v.state) ∧
      (run.phase.tracking = true →
        r.phase = .halted ∧ r.halt = some ⟨⟨false, false, false, true, false⟩, run.phase⟩ ∧
        ∀ l, l = .motion ∨ l = .cell → Table.get? (t.link l).raw 6 =
          some (.halt run.number ⟨false, false, false, true, false⟩ run.phase)) ∧
      (∀ h, run.phase = .halted → run.halt = some h →
        r = { run with halt := some ⟨{ h.causes with pinch := true }, h.back⟩ } ∧
        ∀ l, l = .motion ∨ l = .cell → Table.get? (t.link l).raw 6 =
          (if h.causes.pinch then Table.get? (s.link l).raw 6
            else some (.halt run.number { h.causes with pinch := true } h.back))) ∧
      (run.phase = .awaitThread ∨ run.phase = .broken ∨ run.phase = .stranded → r = run) ∧
      (∀ i, i ≠ run.contour → t.contour? i = s.contour? i) ∧
      t.prog = s.prog ∧ t.planner = s.planner ∧ t.catchSet = s.catchSet ∧ t.trace = s.trace ∧ SetupKept s t ∧
      HistoryKept s t ∧ Kept s t)

/-- The end of a window: its record, the identified setting and mean where it is non-neutral (R100, R101), the
mismatch counter and the SETTING halt where it was eligible (R103; a counter already at its limit: log 39), and the
next window (R102). The identified setting is the lowest index whose centre is not 0 and whose band holds the mean,
UNKNOWN where there is none (R101). The end of the settle window makes it IDLE (R111). -/
def Obligations.WindowEndAndSettleEnd : Prop :=
  (∀ s : State, s.resetLow = false →
    let ident := if 4 ≤ s.gap.m then some (identify (s.gap.sum / s.gap.m) 0 s.cfg.settings) else s.gap.ident
    let judged : Bool := s.gap.eligible && decide (4 ≤ s.gap.m)
    ∃ t, exec .windowEnd s = .next t ∧
      t.gap.lastWindow = some ⟨s.gap.n, s.gap.m, s.gap.sum, s.gap.eligible⟩ ∧
      t.gap.n = 0 ∧ t.gap.m = 0 ∧ t.gap.sum = 0 ∧ t.gap.windowTimer = s.cfg.windowPeriod * 1000 ∧
      t.gap.ident = ident ∧
      t.gap.lastMean = (if 4 ≤ s.gap.m then some (s.gap.sum / s.gap.m) else s.gap.lastMean) ∧
      (t.gap.eligible = true ↔
        (∃ r, t.run = some r ∧ (r.phase = .leadIn ∨ r.phase = .cutting)) ∧ s.gap.settle = none) ∧
      (s.run = none → t.run = none ∧ t.gap.mismatch = s.gap.mismatch) ∧
      (∀ run, s.run = some run →
        t.gap.mismatch = (if judged = true then
            (if ident = some (.setting run.expected) then 0
              else if s.gap.mismatch < s.cfg.mismatchLimit then s.gap.mismatch + 1 else s.gap.mismatch)
            else s.gap.mismatch) ∧
        (judged = true → ident ≠ some (.setting run.expected) → s.gap.mismatch + 1 = s.cfg.mismatchLimit →
          run.phase.tracking = true →
          ∃ r, t.run = some r ∧ r.phase = .halted ∧ r.halt = some ⟨⟨false, false, true, false, false⟩, run.phase⟩) ∧
        ((judged = false ∨ ident = some (.setting run.expected) ∨ s.gap.mismatch + 1 ≠ s.cfg.mismatchLimit) →
          t.run = some run)) ∧
      t.gap.interval = s.gap.interval ∧ t.gap.settle = s.gap.settle ∧ t.gap.pulseTotal = s.gap.pulseTotal ∧
      t.gap.violation = s.gap.violation ∧
      t.plate = s.plate ∧ t.prog = s.prog ∧ t.planner = s.planner ∧ t.catchSet = s.catchSet ∧ t.trace = s.trace ∧
      SetupKept s t ∧ HistoryKept s t ∧ Kept s t) ∧
  (∀ s : State, exec .settleEnd s = .next { s with gap := { s.gap with settle := none } }) ∧
  (∀ (mean : Nat) (table : List (Nat × Nat)),
    let fits (i : Nat) : Prop := ∃ e, table[i]? = some e ∧ e.1 ≠ 0 ∧ ((mean : Int) - e.1).natAbs ≤ e.2
    (∀ i, identify mean 0 table = .setting i ↔ (fits i ∧ ∀ j, j < i → ¬ fits j)) ∧
    (identify mean 0 table = .unknown ↔ ∀ i, ¬ fits i))

/-- CONFIG_WRITE with no run open replaces the record and has R163's consequences; with a run open it is refused BUSY
(R162, R163, R30, R100). -/
def Obligations.ConfigWriteReplacesTheRecord : Prop :=
  (∀ (tag : Byte) (body : List Byte) (new : ConfigRecord) (s : State), Serves .cell .configWrite s →
    parseConfig body = some new → s.run = none →
    ∃ t, exec (.configWrite tag body) s = .next t ∧ t.cfg = new ∧
      t.cell.busy.bind (·.reply) = some (frameOf 0xC1 tag (0 :: configFields new)) ∧
      t.axisX = { s.axisX with
        index := if s.cfg.indexPitchX = new.indexPitchX then s.axisX.index else none } ∧
      t.axisY = { s.axisY with
        index := if s.cfg.indexPitchY = new.indexPitchY then s.axisY.index else none } ∧
      (s.cfg.windowPeriod ≠ new.windowPeriod →
        t.gap.n = 0 ∧ t.gap.m = 0 ∧ t.gap.sum = 0 ∧ t.gap.eligible = false ∧
        t.gap.windowTimer = new.windowPeriod * 1000) ∧
      (s.cfg.windowPeriod = new.windowPeriod →
        t.gap.n = s.gap.n ∧ t.gap.m = s.gap.m ∧ t.gap.sum = s.gap.sum ∧ t.gap.windowTimer = s.gap.windowTimer) ∧
      t.gap.lastWindow = s.gap.lastWindow ∧ t.gap.ident = s.gap.ident ∧
      (s.cfg.permitLead = new.permitLead → t.plate.contours = s.plate.contours) ∧
      (s.cfg.permitLead ≠ new.permitLead → s.plate.state.live = true → ∀ i c v, s.contour? i = some c →
        c.live = some v →
        t.contour? i = some { c with live := some { v with state := c.evaluated (s.catchArmed i) new.permitLead } }) ∧
      (s.cfg.holeLimit ≤ new.holeLimit → s.cfg.permitLead = new.permitLead → t.plate.holes = s.plate.holes) ∧
      (new.holeLimit < s.cfg.holeLimit → s.cfg.permitLead = new.permitLead → s.plate.state.live = true →
        ∀ i h v, s.hole? i = some h → h.live = some v →
          t.hole? i = some { h with live := some (if new.holeLimit ≤ v.fails then
            { v with fails := new.holeLimit, state := if v.state = .lost then .lost else .blocked } else v) }) ∧
      t.run = none ∧ t.planner = s.planner ∧ t.catchSet = s.catchSet ∧ t.prog = s.prog ∧ t.trace = s.trace ∧
      HistoryKept s t ∧ Kept s t) ∧
  (∀ (tag : Byte) (body : List Byte) (new : ConfigRecord) (s : State), Serves .cell .configWrite s →
    parseConfig body = some new → s.run.isSome = true →
    exec (.configWrite tag body) s =
      .next (replied .cell .configWrite tag (0x04 :: configFields s.cfg) s))

/-- Every completed sample counts toward the decimation; at trace_decimation it forms the record of Table 11-3 (R165),
which joins the FIFO, with TRACE_LEVEL where it reaches the threshold, or is dropped with TRACE_OVERFLOW where the
FIFO is full (R166). TRACE_READ hands out the twelve oldest records, their number once as their count byte (log 25),
and the dropped count, which becomes 0 (R167). -/
def Obligations.TraceRecordsAreFormedAndRead : Prop :=
  (∀ (run : Run) (presence : Bool) (s : State), Samples run presence s →
    ∃ t u, exec .progressSample s = .next t ∧ t.run = some u ∧
      let entry : TraceRecord := {
        run := run.number % 256
        phase := run.phase
        r := max (-32768) (min 32767 (t.prog.r / ((2 ^ s.cfg.traceShift : Nat) : Int)))
        dev := min 65535 (t.prog.dev / 2 ^ s.cfg.traceShift)
        discharges := s.trace.tally
        short := s.gap.shortSince || s.gap.episode.any (fun e => e.qualified)
        warn := u.warn
        dry := decide (0 < t.prog.dry) }
      (s.trace.decimation + 1 ≠ s.cfg.traceDecimation →
        t.trace = { s.trace with decimation := s.trace.decimation + 1 } ∧ t.gap.shortSince = s.gap.shortSince ∧
        t.cell.raw.filter (fun e => decide (e.1 = 13 ∨ e.1 = 14)) =
          s.cell.raw.filter (fun e => decide (e.1 = 13 ∨ e.1 = 14))) ∧
      (s.trace.decimation + 1 = s.cfg.traceDecimation → s.trace.fifo.length < 64 →
        t.trace = ⟨s.trace.fifo ++ [entry], 0, 0, s.trace.dropped⟩ ∧ t.gap.shortSince = false ∧
        Table.get? t.cell.raw 13 = (if s.trace.fifo.length < s.cfg.traceThreshold ∧
            s.cfg.traceThreshold ≤ s.trace.fifo.length + 1 then some (.traceLevel (s.trace.fifo.length + 1))
          else Table.get? s.cell.raw 13) ∧
        Table.get? t.cell.raw 14 = Table.get? s.cell.raw 14) ∧
      (s.trace.decimation + 1 = s.cfg.traceDecimation → 64 ≤ s.trace.fifo.length →
        t.trace = ⟨s.trace.fifo, 0, 0, min 255 (s.trace.dropped + 1)⟩ ∧ t.gap.shortSince = false ∧
        Table.get? t.cell.raw 14 = some (.traceOverflow (min 255 (s.trace.dropped + 1))) ∧
        Table.get? t.cell.raw 13 = Table.get? s.cell.raw 13)) ∧
  (∀ (tag : Byte) (s : State), Serves .cell .traceRead s →
    exec (.traceRead tag []) s = .next (replied .cell .traceRead tag
      (0 :: (natField 1 (min 12 s.trace.fifo.length) ++ (s.trace.fifo.take 12).flatMap traceField ++
        natField 1 s.trace.dropped ++ natField 1 (s.trace.fifo.length - 12)))
      { s with trace := { s.trace with fifo := s.trace.fifo.drop 12, dropped := 0 } }))

/-! ### Path progress (chapter 3) -/

/-- An off-path sample adds to the off-path count and at offpath_limit halts the run on TRACK_LOSS (R49, R73): one
whose position is unavailable moves nothing else of the Progress Unit (R41); one whose deviation exceeds path_tol, or
that calls for a fifth step, on the loop or on a lead-in, keeps the segment reached with its along and dev (R45, R48,
R50). The position is read at the completion, and on a lead-in's first segment the walk does not step back; both are the
model's (log 16, log 19). An abandoned sample has no effect (R40), and an expiry outside
the four tracking phases has none (R39). -/
def Obligations.OffPathAndAbandonedSamples : Prop :=
  (∀ (run : Run) (presence : Bool) (c : Contour) (s : State), Samples run presence s →
    s.contour? run.contour = some c →
    let onLoop := walk c.legs true s.cfg.pathTol s.pos 4 s.prog.seg
    let onLeadIn (hole : Hole) := walk hole.legs false s.cfg.pathTol s.pos 4 s.prog.seg
    let count := min 255 (s.prog.offPath + 1)
    ∃ t, exec .progressSample s = .next t ∧
      (s.available = false → t.prog = { s.prog with offPath := count }) ∧
      (s.available = true → s.prog.path = .loop → (onLoop.capped = true ∨ s.cfg.pathTol < onLoop.dev) →
        t.prog = { s.prog with seg := onLoop.seg, along := onLoop.along, dev := onLoop.dev, offPath := count }) ∧
      (∀ h hole, s.available = true → s.prog.path = .leadIn h → s.hole? h = some hole →
        ((onLeadIn hole).capped = true ∨ s.cfg.pathTol < (onLeadIn hole).dev) →
        t.prog = { s.prog with
          seg := (onLeadIn hole).seg, along := (onLeadIn hole).along, dev := (onLeadIn hole).dev, offPath := count }) ∧
      ((s.available = false ∨
          (s.prog.path = .loop ∧ (onLoop.capped = true ∨ s.cfg.pathTol < onLoop.dev)) ∨
          (∃ h hole, s.prog.path = .leadIn h ∧ s.hole? h = some hole ∧
            ((onLeadIn hole).capped = true ∨ s.cfg.pathTol < (onLeadIn hole).dev))) →
        (s.cfg.offpathLimit ≤ count → TrackLost t) ∧
        (count < s.cfg.offpathLimit → run.phase ≠ .cutting →
          t.run = some { run with sampledRem := some (run.stop - testedValue run s.prog) }) ∧
        t.plate = s.plate) ∧
      t.gap.presence = presenceAfter s ∧ t.sampling = .none ∧
      t.planner = s.planner ∧ t.catchSet = s.catchSet ∧ SetupKept s t ∧ HistoryKept s t ∧ Kept s t) ∧
  (∀ s : State, s.resetLow = false → s.sampling = .abandoned →
    exec .progressSample s = .next { s with sampling := .none }) ∧
  (∀ s : State, s.sampling = .none → (∀ run, s.run = some run → run.phase.tracking = false) →
    exec .progressSample s = .next s)

/-- An on-path sample on the loop moves the loop position and the run distance (R48, R52), whether it was in progress
or expires now (R40); the position is read at the completion, the model's choice (log 16). In CUTTING and AT_LIMIT,
where the distance passes the frontier, a discharge since the last sample credits the way up to it, and without one
the excess is dry (R54, R55); a credit that covers a cell evaluates the contour (R84, R134). APPROACH and SKIM credit
nothing (R54, R56). -/
def Obligations.LoopSampleMovesTheFrontier : Prop :=
  ∀ (run : Run) (presence : Bool) (c : Contour) (v : ContourLive) (s : State), Samples run presence s →
    (run.phase = .approach ∨ run.phase = .cutting ∨ run.phase = .atLimit) → s.available = true →
    s.prog.path = .loop → s.contour? run.contour = some c → c.live = some v →
    let w := walk c.legs true s.cfg.pathTol s.pos 4 s.prog.seg
    let new := reachedPos c w
    let delta := normDelta c.g.loopLen ((new : Int) - (s.prog.sOld.getD new : Nat))
    let r := addDist s.prog.r (if run.dir = .fwd then delta else -delta)
    let credits : Bool := decide (run.phase ≠ .approach) && decide (run.kind ≠ .skim)
    let front := min r.toNat c.g.loopLen
    w.capped = false → w.dev ≤ s.cfg.pathTol →
    ∃ t, exec .progressSample s = .next t ∧
      t.prog.seg = w.seg ∧ t.prog.along = w.along ∧ t.prog.dev = w.dev ∧ t.prog.sOld = some new ∧ t.prog.r = r ∧
      t.prog.offPath = 0 ∧ t.prog.path = .loop ∧ t.prog.lam = s.prog.lam ∧ t.prog.timer = s.prog.timer ∧
      t.gap.presence = presenceAfter s ∧ t.sampling = .none ∧
      (credits = true → (s.prog.a : Int) < r → presence = true →
        t.prog.dry = 0 ∧ t.prog.a = max s.prog.a front ∧ (∀ i, i ≠ run.contour → t.contour? i = s.contour? i) ∧
        ∃ d x, t.contour? run.contour = some d ∧ d.live = some x ∧
          x.coverage = (if s.prog.a < front then
            creditList run.e0 run.dir c.g.loopLen v.coverage s.prog.a front else v.coverage) ∧
          x.state = (if x.coverage = v.coverage then v.state
            else d.evaluated (s.catchArmed run.contour) s.cfg.permitLead)) ∧
      (credits = true → (s.prog.a : Int) < r → presence = false →
        t.prog.a = s.prog.a ∧ t.prog.dry = (r - s.prog.a).toNat ∧ t.plate = s.plate ∧
        (s.cfg.dryLimit < (r - s.prog.a).toNat → TrackLost t)) ∧
      (credits = true → r ≤ s.prog.a → t.prog.a = s.prog.a ∧ t.prog.dry = 0 ∧ t.plate = s.plate) ∧
      (credits = false → t.prog.a = s.prog.a ∧ t.prog.dry = s.prog.dry ∧ t.plate = s.plate) ∧
      t.planner = s.planner ∧ t.catchSet = s.catchSet ∧ SetupKept s t ∧ HistoryKept s t ∧ Kept s t

/-- What the Run Controller makes of an on-path loop sample that presents no TRACK_LOSS, while nothing stands that
halts the run: APPROACH ends at the cut-from distance less resume_tol (R66), CUTTING and the end of APPROACH go to
AT_LIMIT where the stop point is reached, with its event (R67), AT_LIMIT stays; the warn indicator and WARN follow the
remaining distance in CUTTING alone, by warn_mode (R70, R71); the wire has left its hole (R64). The position is read at
the completion of the sample, the model's choice (log 16). -/
def Obligations.LoopSampleTestsPhaseAndWarn : Prop :=
  ∀ (run : Run) (presence : Bool) (c : Contour) (v : ContourLive) (s : State), Samples run presence s →
    (run.phase = .approach ∨ run.phase = .cutting ∨ run.phase = .atLimit) → s.available = true →
    s.prog.path = .loop → s.contour? run.contour = some c → c.live = some v →
    let w := walk c.legs true s.cfg.pathTol s.pos 4 s.prog.seg
    let new := reachedPos c w
    let delta := normDelta c.g.loopLen ((new : Int) - (s.prog.sOld.getD new : Nat))
    let r := addDist s.prog.r (if run.dir = .fwd then delta else -delta)
    let credits : Bool := decide (run.phase ≠ .approach) && decide (run.kind ≠ .skim)
    w.capped = false → w.dev ≤ s.cfg.pathTol → NothingStands s →
    (credits = false ∨ r ≤ s.prog.a ∨ presence = true ∨ (r - s.prog.a).toNat ≤ s.cfg.dryLimit) →
    ∃ t u, exec .progressSample s = .next t ∧ t.run = some u ∧
      let tested := if run.kind = .skim then t.prog.r else t.prog.a
      let rem := run.stop - tested
      let asserts : Bool := decide (run.phase = .cutting) && !run.warn && decide (rem ≤ s.cfg.warnDist)
      let clears : Bool := decide (run.phase = .cutting) && run.warn && decide (s.cfg.warnMode = .level) &&
        decide (((s.cfg.warnDist + s.cfg.warnHyst : Nat) : Int) < rem)
      u = { run with
        leftHole := true
        sampledRem := some rem
        warn := (run.warn || asserts) && !clears
        phase :=
          if run.phase = .approach ∧ r < (run.c : Int) - s.cfg.resumeTol then .approach
          else if run.phase = .atLimit ∨ run.stop ≤ tested then .atLimit
          else .cutting } ∧
      Table.get? t.motion.raw 1 =
        (if asserts then some (.warn run.number rem) else Table.get? s.motion.raw 1) ∧
      (∀ l, l = .motion ∨ l = .cell →
        Table.get? (t.link l).raw 2 = (if u.phase = .atLimit ∧ run.phase ≠ .atLimit then
          some (.atLimit run.number run.stop tested) else Table.get? (s.link l).raw 2) ∧
        Table.get? (t.link l).raw 0 = (if u.phase ≠ run.phase then some (.runPhase run.number (.phase u.phase))
          else Table.get? (s.link l).raw 0)) ∧
      t.gap.settle = (if u.phase = .cutting ∧ run.phase ≠ .cutting ∧ s.cfg.settleOnResume = true ∧
        s.cfg.settleTime ≠ 0 then some (s.cfg.settleTime * 10000) else s.gap.settle)

/-- An on-path sample on a lead-in, in LEAD_IN or APPROACH, moves the lead-in position alone (R50). On the last
segment, at or beyond its end, it enters the loop at the hole's entry; in LEAD_IN the lead-in is then cut (R51). The
run goes to CUTTING, or AT_LIMIT where its stop point is reached, or stays in APPROACH or changes to it (R65, R67). The
position is read at the completion of the sample, the model's choice (log 16), and on the lead-in's first segment the
walk does not step back, the model's reading (log 19). -/
def Obligations.LeadInSampleEntersTheLoop : Prop :=
  ∀ (run : Run) (presence : Bool) (c : Contour) (h : Nat) (hole : Hole) (s : State), Samples run presence s →
    (run.phase = .leadIn ∨ run.phase = .approach) → s.available = true → s.prog.path = .leadIn h →
    s.contour? run.contour = some c → s.hole? h = some hole →
    let w := walk hole.legs false s.cfg.pathTol s.pos 4 s.prog.seg
    let leg := legAt hole.legs w.seg
    let atEnd : Prop := w.seg + 1 = hole.legs.length ∧ (leg.len : Int) ≤ w.along
    let lam := (hole.g.segLen.take w.seg).sum + (max 0 (min (leg.len : Int) w.along)).toNat
    let tested := if run.kind = .skim then s.prog.r else (s.prog.a : Int)
    let rem := some (run.stop - tested)
    w.capped = false → w.dev ≤ s.cfg.pathTol →
    ∃ t, exec .progressSample s = .next t ∧
      (¬ atEnd →
        t.prog = { s.prog with seg := w.seg, along := w.along, dev := w.dev, offPath := 0, lam := lam } ∧
        t.plate = s.plate ∧ t.run = some { run with leftHole := run.leftHole || decide (0 < lam), sampledRem := rem }) ∧
      (atEnd →
        t.prog = { s.prog with
          path := .loop, seg := hole.g.entrySeg, along := w.along, dev := w.dev, offPath := 0
          lam := hole.g.lin, sOld := some hole.g.entry } ∧
        t.hole? h = some (if run.phase = .leadIn then
          { hole with live := hole.live.map (fun x => { x with leadInCut := true }) } else hole) ∧
        (∀ k, k ≠ h → t.hole? k = s.hole? k) ∧ t.plate.contours = s.plate.contours ∧
        (NothingStands s → ∃ u, t.run = some u ∧
          u = { run with
            leftHole := run.leftHole || decide (0 < hole.g.lin)
            sampledRem := rem
            phase :=
              if s.prog.r < (run.c : Int) - s.cfg.resumeTol then .approach
              else if run.stop ≤ tested then .atLimit
              else .cutting } ∧
          ∀ l, l = .motion ∨ l = .cell →
            Table.get? (t.link l).raw 2 = (if u.phase = .atLimit then some (.atLimit run.number run.stop tested)
              else Table.get? (s.link l).raw 2) ∧
            Table.get? (t.link l).raw 0 = (if u.phase ≠ run.phase then some (.runPhase run.number (.phase u.phase))
              else Table.get? (s.link l).raw 0))) ∧
      t.gap.presence = presenceAfter s ∧ t.sampling = .none ∧
      t.planner = s.planner ∧ t.catchSet = s.catchSet ∧ SetupKept s t ∧ HistoryKept s t ∧ Kept s t

/-- Projection is exact (R42): dot and cross as whole numbers, each divided by the length and rounded by floor; with
coordinate differences below 2^24 both stay below 2^50, and the far end of a segment is found at or beyond its end. -/
def Obligations.ProjectionRoundsByFloor : Prop :=
  ∀ (g : Leg) (p : Point), 1 ≤ g.len →
    let dx := g.b.x - g.a.x
    let dy := g.b.y - g.a.y
    let dot := (p.x - g.a.x) * dx + (p.y - g.a.y) * dy
    let cross := (p.x - g.a.x) * dy - (p.y - g.a.y) * dx
    (g.len : Int) * (g.project p).along ≤ dot ∧ dot < g.len * ((g.project p).along + 1) ∧
    g.len * (g.project p).dev ≤ cross.natAbs ∧ cross.natAbs < g.len * ((g.project p).dev + 1) ∧
    (dx.natAbs < 2 ^ 24 → dy.natAbs < 2 ^ 24 → (p.x - g.a.x).natAbs < 2 ^ 24 → (p.y - g.a.y).natAbs < 2 ^ 24 →
      dot.natAbs < 2 ^ 50 ∧ cross.natAbs < 2 ^ 50) ∧
    (p = g.b → g.len = segLength g.a g.b → (g.len : Int) ≤ (g.project p).along)

/-- Stepping along a path. The tests of one segment in R43's order: forward, back, corner hand-over to the next segment
and else to the one before (R44); in an outside corner's dead zone the position is the corner vertex (R44). On a loop
the neighbours wrap; a lead-in's last segment has no forward test and no forward hand-over, its first no back test, a
negative along there counts as 0 (R50), and a forward hand-over from it is still tried (DEDUCED, log 19). A walk follows
these tests from segment to segment and ends where they do, or after `k` steps where a further one is called for, with
the along and dev of the segment reached (R45: a sample makes at most 4). -/
def Obligations.WalkTakesOneSegmentAtATime : Prop :=
  ∀ (legs : List Leg) (wraps : Bool) (tol : Nat) (p : Point),
    let n := legs.length
    let along (i : Nat) : Int := ((legAt legs i).project p).along
    let dev (i : Nat) : Nat := ((legAt legs i).project p).dev
    let len (i : Nat) : Int := (legAt legs i).len
    let after (i : Nat) : Option Nat := if i + 1 < n then some (i + 1) else if wraps then some 0 else none
    let before (i : Nat) : Option Nat := if 0 < i then some (i - 1) else if wraps then some (n - 1) else none
    let takes (j : Nat) : Prop := 0 ≤ along j ∧ along j ≤ len j ∧ dev j ≤ tol
    let move (i : Nat) : Move := stepTest legs wraps tol p i
    (∀ i, i < n →
      (len i < along i →
        (∀ j, after i = some j → 0 ≤ along j → move i = .to j) ∧
        (∀ j, after i = some j → along j < 0 → move i = .stop (len i)) ∧
        (after i = none → move i = .stop (along i))) ∧
      (along i < 0 →
        (∀ j, before i = some j → along j ≤ len j → move i = .to j) ∧
        (∀ j, before i = some j → len j < along j → move i = .stop 0)) ∧
      (along i ≤ len i → (0 ≤ along i ∨ before i = none) →
        (dev i ≤ tol → move i = .stop (max 0 (along i))) ∧
        (tol < dev i →
          (∀ j, after i = some j → takes j → move i = .to j) ∧
          ((∀ j, after i = some j → ¬ takes j) →
            (∀ j, before i = some j → takes j → move i = .to j) ∧
            ((∀ j, before i = some j → ¬ takes j) → move i = .stop (max 0 (along i))))))) ∧
    (∀ k i, ∃ (m : Nat) (visited : Nat → Nat), m ≤ k ∧ visited 0 = i ∧
      (∀ q, q < m → move (visited q) = .to (visited (q + 1))) ∧
      let e := visited m
      ((∃ x, move e = .stop x ∧ walk legs wraps tol p k i = ⟨e, x, dev e, false⟩) ∨
        (m = k ∧ (∃ j, move e = .to j) ∧ walk legs wraps tol p k i = ⟨e, along e, dev e, true⟩)))

/-- Loop position and run distance by R47's formulas; they are inverse to one another, and both lie in [0, Lc). -/
def Obligations.RunDistanceInvertsLoopPosition : Prop :=
  ∀ (e0 loopLen : Nat) (dir : Dir), 0 < loopLen →
    (∀ q : Int, (loopPos e0 .fwd loopLen q : Int) = (e0 + q) % loopLen ∧
      (loopPos e0 .rev loopLen q : Int) = (e0 - q) % loopLen) ∧
    (∀ s : Nat, (runDist e0 .fwd loopLen s : Int) = ((s : Int) - e0) % loopLen ∧
      (runDist e0 .rev loopLen s : Int) = ((e0 : Int) - s) % loopLen) ∧
    (∀ q : Int, loopPos e0 dir loopLen q < loopLen ∧
      (runDist e0 dir loopLen (loopPos e0 dir loopLen q) : Int) = q % loopLen) ∧
    (∀ s, s < loopLen → runDist e0 dir loopLen s < loopLen ∧ loopPos e0 dir loopLen (runDist e0 dir loopLen s) = s)

/-! ### Coverage (chapter 5) -/

/-- A credit keeps the form of a coverage list and covers exactly the cells it held and the cells of the credited run
distances (R82, R83, R84). The uncovered stretches hold exactly the cells that no interval covers, each cell in one of
them and once, in ascending order, and each is maximal: the cells before and after it are covered, unless it is the
whole loop (R85). There is none exactly when the coverage is full (R83). -/
def Obligations.CoverageListHoldsExactlyTheCutCells : Prop :=
  (∀ (e0 : Nat) (dir : Dir) (loopLen a1 a2 : Nat) (cov : List Span), coverageWf loopLen 0 cov = true → a1 < a2 →
    a2 ≤ loopLen →
    coverageWf loopLen 0 (creditList e0 dir loopLen cov a1 a2) = true ∧
    ∀ x, x < loopLen → (inSpans x (creditList e0 dir loopLen cov a1 a2) = true ↔
      inSpans x cov = true ∨ ∃ q, a1 ≤ q ∧ q < a2 ∧ x = (match dir with
        | .fwd => loopPos e0 .fwd loopLen q
        | .rev => loopPos e0 .rev loopLen (q + 1)))) ∧
  (∀ (loopLen : Nat) (cov : List Span), coverageWf loopLen 0 cov = true → 0 < loopLen →
    (∀ x, x < loopLen → (inSpans x cov = false ↔
      ∃ t ∈ uncovered loopLen cov, ∃ k, k < t.len ∧ x = (t.first + k) % loopLen)) ∧
    (fullCoverage loopLen cov = true ↔ ∀ x, x < loopLen → inSpans x cov = true) ∧
    (uncovered loopLen cov = [] ↔ fullCoverage loopLen cov = true) ∧
    (∀ t ∈ uncovered loopLen cov, t.first < loopLen ∧ 0 < t.len ∧ t.len ≤ loopLen) ∧
    (∀ t ∈ uncovered loopLen cov, ∀ u ∈ uncovered loopLen cov, ∀ j k, j < t.len → k < u.len →
      (t.first + j) % loopLen = (u.first + k) % loopLen → t = u ∧ j = k) ∧
    (∀ t ∈ uncovered loopLen cov, t.len < loopLen →
      inSpans ((t.first + loopLen - 1) % loopLen) cov = true ∧ inSpans ((t.first + t.len) % loopLen) cov = true) ∧
    ((uncovered loopLen cov).map (·.first)).Pairwise (· < ·))

/-- The cut-from distance is the least run distance whose cell is uncovered, Lc where there is none, 0 for SKIM (R88).
The limit of a FIRST run is the least run distance from the search start whose cell is covered or lies in a protected
tab, declared or implied, and its stop point lies permit_lead before a tab edge (R90); that of a RELEASE run is the
least covered one (R91), that of a SKIM run the least uncovered one, with its stop point permit_lead before it and
both flags clear (R92). On the final stretch a FIRST or RELEASE run has the final flag under a catch, and without one
is held back by w, its stop point permit_lead before the shortened limit (R93), and a recomputation that newly holds
it back posts CATCH_NEEDED (R93). -/
def Obligations.LimitsAreLeastRunDistances : Prop :=
  (∀ (e0 : Nat) (dir : Dir) (c : Contour) (lead s0 : Nat) (armed : Bool),
    let lc := c.g.loopLen
    let cell (q : Nat) : Nat := match dir with
      | .fwd => loopPos e0 .fwd lc q
      | .rev => loopPos e0 .rev lc (q + 1)
    let covered (q : Nat) : Prop := inSpans (cell q) c.lv.coverage = true
    let inTab (q : Nat) : Prop := ∃ tab ∈ c.protectedTabs, ∃ j, j < tab.len ∧ cell q = (tab.first + j) % lc
    coverageWf lc 0 c.lv.coverage = true → 0 < lc → s0 ≤ lc →
    (∀ tab ∈ c.protectedTabs, tab.first < lc ∧ 0 < tab.len ∧ tab.len ≤ lc) →
    (∀ kind, kind ≠ .skim →
      cutFrom kind e0 dir c ≤ lc ∧ (∀ q, q < cutFrom kind e0 dir c → covered q) ∧
      (cutFrom kind e0 dir c < lc → ¬ covered (cutFrom kind e0 dir c))) ∧
    cutFrom .skim e0 dir c = 0 ∧
    (∀ kind, kind ≠ .skim →
      let stops (q : Nat) : Prop := covered q ∨ (kind = .first ∧ inTab q)
      ∃ (limit : Nat) (stop : Int), s0 ≤ limit ∧ limit ≤ lc ∧
        (∀ q, s0 ≤ q → q < limit → ¬ stops q) ∧ (limit < lc → stops limit) ∧
        (kind = .first ∧ limit < lc ∧ inTab limit → stop = (limit : Int) - lead) ∧
        (¬ (kind = .first ∧ limit < lc ∧ inTab limit) → stop = limit) ∧
        let final : Prop := ∀ q, q < lc → ¬ covered q → s0 ≤ q ∧ q < limit
        let short := max s0 (limit - c.width)
        (¬ final → computeLimits kind e0 dir c armed lead s0 = ⟨limit, stop, false, false, 0⟩) ∧
        (final → armed = true → computeLimits kind e0 dir c armed lead s0 = ⟨limit, stop, true, false, 0⟩) ∧
        (final → armed = false →
          computeLimits kind e0 dir c armed lead s0 = ⟨short, (short : Int) - lead, false, true, limit - short⟩)) ∧
    (let lim := computeLimits .skim e0 dir c armed lead s0
     lim.limit ≤ lc ∧ (∀ q, q < lim.limit → covered q) ∧ (lim.limit < lc → ¬ covered lim.limit) ∧
     lim.stop = lim.limit - lead ∧ lim.final = false ∧ lim.holdback = false)) ∧
  (∀ (s : State) (run : Run) (c : Contour), s.run = some run → s.contour? run.contour = some c →
    LimitsTaken run
      (computeLimits run.kind run.e0 run.dir c (s.catchArmed run.contour) s.cfg.permitLead s.prog.a) s
      (recomputeLimits s))
end

