-- ==== Sys2Proof/Laws/Bodies.lean ====
section
/-! SUPPORT. A body reads exactly when it has the length its request carries: one lemma per layout. -/

namespace Sys2Proof.Machine

theorem isSome_parseNone (b : List Byte) : (parseNone b).isSome = Req.lengthOk .linkErrors b := by
  rcases b with _ | ⟨_, _⟩ <;> simp [parseNone, Req.lengthOk, Req.bodyLength]

theorem isSome_parseByte (b : List Byte) : (parseByte b).isSome = Req.lengthOk .runRead b := by
  rcases b with _ | ⟨_, _ | ⟨_, _⟩⟩ <;> simp [parseByte, Req.lengthOk, Req.bodyLength]

theorem isSome_parseSet (b : List Byte) : (parseSet b).isSome = Req.lengthOk .eventMask b := by
  rcases b with _ | ⟨_, _ | ⟨_, _ | ⟨_, _⟩⟩⟩ <;> simp [parseSet, Req.lengthOk, Req.bodyLength]

theorem isSome_parseThreadDone (b : List Byte) : (parseThreadDone b).isSome = Req.lengthOk .threadDone b := by
  rcases b with _ | ⟨_, _ | ⟨_, _ | ⟨_, _⟩⟩⟩ <;> simp [parseThreadDone, Req.lengthOk, Req.bodyLength]

theorem isSome_parseWord (b : List Byte) : (parseWord b).isSome = Req.lengthOk .plateBegin b := by
  rcases b with _ | ⟨_, _ | ⟨_, _ | ⟨_, _ | ⟨_, _ | ⟨_, _⟩⟩⟩⟩⟩ <;> simp [parseWord, Req.lengthOk, Req.bodyLength]

theorem isSome_parseVertexRead (b : List Byte) : (parseVertexRead b).isSome = Req.lengthOk .vertexRead b := by
  rcases b with _ | ⟨_, _ | ⟨_, _ | ⟨_, _ | ⟨_, _ | ⟨_, _⟩⟩⟩⟩⟩ <;>
    simp [parseVertexRead, Req.lengthOk, Req.bodyLength]

theorem isSome_parseRunOpen (b : List Byte) : (parseRunOpen b).isSome = Req.lengthOk .runOpen b := by
  rcases b with _ | ⟨_, _ | ⟨_, _ | ⟨_, _ | ⟨_, _ | ⟨_, _ | ⟨_, _⟩⟩⟩⟩⟩⟩ <;>
    simp [parseRunOpen, Req.lengthOk, Req.bodyLength]

theorem isSome_parseZeroSet (b : List Byte) : (parseZeroSet b).isSome = Req.lengthOk .zeroSet b := by
  rcases b with _ | ⟨_, _ | ⟨_, _ | ⟨_, _ | ⟨_, _ | ⟨_, _ | ⟨_, _ | ⟨_, _ | ⟨_, _ | ⟨_, _⟩⟩⟩⟩⟩⟩⟩⟩⟩ <;>
    simp [parseZeroSet, Req.lengthOk, Req.bodyLength]

theorem isSome_parseConfig (b : List Byte) : (parseConfig b).isSome = Req.lengthOk .configWrite b := by
  unfold parseConfig; split <;> simp [Req.lengthOk, Req.bodyLength] <;> omega

theorem isSome_parseContourLoad (b : List Byte) : (parseContourLoad b).isSome = Req.lengthOk .contourLoad b := by
  rcases b with _ | ⟨_, _ | ⟨_, _ | ⟨_, _ | ⟨_, _ | ⟨_, _⟩⟩⟩⟩⟩ <;>
    simp [parseContourLoad, Req.lengthOk, Req.bodyLength]
  split <;> simp <;> omega

theorem isSome_parseVertexAppend (b : List Byte) : (parseVertexAppend b).isSome = Req.lengthOk .vertexAppend b := by
  rcases b with _ | ⟨_, _ | ⟨_, _⟩⟩ <;> simp [parseVertexAppend, Req.lengthOk, Req.bodyLength]
  split <;> simp <;> omega

theorem isSome_parseHoleLoad (b : List Byte) : (parseHoleLoad b).isSome = Req.lengthOk .holeLoad b := by
  rcases b with _ | ⟨_, _ | ⟨_, _ | ⟨_, _ | ⟨_, _ | ⟨_, _ | ⟨_, _ | ⟨_, _ | ⟨_, _ | ⟨_, _ |
    ⟨_, _ | ⟨_, _⟩⟩⟩⟩⟩⟩⟩⟩⟩⟩⟩ <;>
    simp [parseHoleLoad, Req.lengthOk, Req.bodyLength]
  split <;> simp <;> omega

end Sys2Proof.Machine
end

