-- ==== Sys2Proof/Laws/Table.lean ====
section
/-! SUPPORT. Tables: reading after writing, and the canonical form that every table operation keeps. -/

namespace Sys2Proof.Table

variable {α : Type}

@[simp] theorem get?_nil (i : Nat) : Table.get? ([] : Table α) i = none := rfl

theorem get?_cons (k : Nat) (v : α) (t : Table α) (i : Nat) :
    Table.get? ((k, v) :: t) i = if k = i then some v else Table.get? t i := rfl

theorem get?_set_same (t : Table α) (i : Nat) (v : α) : Table.get? (Table.set t i v) i = some v := by
  induction t with
  | nil => simp [Table.set, Table.get?]
  | cons e rest ih =>
    obtain ⟨k, w⟩ := e
    unfold Table.set
    split
    · simp [Table.get?]
    · split
      · simp [Table.get?]
      · rename_i h1 h2
        have : k ≠ i := fun h => h2 h.symm
        simp [Table.get?, this, ih]

theorem get?_set_other (t : Table α) (i j : Nat) (v : α) (h : j ≠ i) :
    Table.get? (Table.set t i v) j = Table.get? t j := by
  induction t with
  | nil => simp [Table.set, Table.get?, Ne.symm h]
  | cons e rest ih =>
    obtain ⟨k, w⟩ := e
    unfold Table.set
    split
    · simp [Table.get?, Ne.symm h]
    · split
      · rename_i h1 h2
        subst h2
        simp [Table.get?, Ne.symm h]
      · simp [Table.get?, ih]

theorem get?_mapAll (t : Table α) (f : Nat → α → α) (i : Nat) :
    Table.get? (Table.mapAll t f) i = (Table.get? t i).map (f i) := by
  induction t with
  | nil => rfl
  | cons e rest ih =>
    obtain ⟨k, w⟩ := e
    simp only [Table.mapAll, List.map_cons, Table.get?] at ih ⊢
    split
    · rename_i h; subst h; rfl
    · exact ih

/-- A lower bound of the indices of a table. -/
theorem wf_cons (k : Nat) (v : α) (t : Table α) :
    Table.wf ((k, v) :: t) = true ↔ Table.wf t = true ∧ ∀ e ∈ t, k < e.1 := by
  induction t generalizing k v with
  | nil => simp [Table.wf]
  | cons e rest ih =>
    obtain ⟨j, w⟩ := e
    have hw := ih j w
    simp only [Table.wf, Bool.and_eq_true, decide_eq_true_eq, List.mem_cons, forall_eq_or_imp]
    constructor
    · rintro ⟨hlt, h⟩
      exact ⟨h, hlt, fun e he => Nat.lt_trans hlt ((hw.mp h).2 e he)⟩
    · rintro ⟨h, hlt, _⟩
      exact ⟨hlt, h⟩

theorem mem_set (t : Table α) (i : Nat) (v : α) (e : Nat × α) (h : e ∈ Table.set t i v) : e.1 = i ∨ e ∈ t := by
  induction t with
  | nil => simp [Table.set] at h; simp [h]
  | cons f rest ih =>
    obtain ⟨k, w⟩ := f
    unfold Table.set at h
    split at h
    · simp at h; rcases h with h | h | h <;> simp [h]
    · split at h
      · simp at h; rcases h with h | h <;> simp [h]
      · simp at h
        rcases h with h | h
        · simp [h]
        · rcases ih h with h | h <;> simp [h]

/-- Writing keeps the canonical form. -/
theorem wf_set (t : Table α) (i : Nat) (v : α) (h : Table.wf t = true) : Table.wf (Table.set t i v) = true := by
  induction t with
  | nil => rfl
  | cons e rest ih =>
    obtain ⟨k, w⟩ := e
    have hk := (wf_cons k w rest).mp h
    unfold Table.set
    split
    · rename_i hlt
      refine (wf_cons _ _ _).mpr ⟨h, ?_⟩
      intro e he
      simp at he
      rcases he with he | he
      · simp [he, hlt]
      · exact Nat.lt_trans hlt (hk.2 e he)
    · split
      · rename_i _ heq
        subst heq
        exact (wf_cons _ _ _).mpr hk
      · rename_i h1 h2
        refine (wf_cons _ _ _).mpr ⟨ih hk.1, ?_⟩
        intro e he
        rcases mem_set rest i v e he with he | he
        · rw [he]; omega
        · exact hk.2 e he

/-- Changing an entry keeps the canonical form. -/
theorem wf_modify (t : Table α) (i : Nat) (f : α → α) (h : Table.wf t = true) :
    Table.wf (Table.modify t i f) = true := by
  unfold Table.modify
  split
  · exact h
  · exact wf_set t i _ h

/-- The canonical form is a matter of the indices alone. -/
theorem wf_mapAll (t : Table α) (f : Nat → α → α) (h : Table.wf t = true) :
    Table.wf (Table.mapAll t f) = true := by
  induction t with
  | nil => rfl
  | cons e rest ih =>
    obtain ⟨k, w⟩ := e
    have hk := (wf_cons k w rest).mp h
    refine (wf_cons k (f k w) (Table.mapAll rest f)).mpr ⟨ih hk.1, ?_⟩
    intro e he
    simp only [Table.mapAll, List.mem_map] at he
    obtain ⟨d, hd, rfl⟩ := he
    exact hk.2 d hd

/-- Removing entries keeps the canonical form. -/
theorem wf_filter (t : Table α) (p : Nat × α → Bool) (h : Table.wf t = true) :
    Table.wf (List.filter p t : Table α) = true := by
  induction t with
  | nil => rfl
  | cons e rest ih =>
    obtain ⟨k, w⟩ := e
    have hk := (wf_cons k w rest).mp h
    rw [List.filter_cons]
    split
    · refine (wf_cons k w _).mpr ⟨ih hk.1, ?_⟩
      intro e he
      exact hk.2 e (List.mem_filter.mp he).1
    · exact ih hk.1

theorem get?_none_of_lt (t : Table α) (i : Nat) (h : ∀ e ∈ t, i < e.1) : Table.get? t i = none := by
  induction t with
  | nil => rfl
  | cons e rest ih =>
    obtain ⟨k, w⟩ := e
    have hk : i < k := h (k, w) (by simp)
    simp only [Table.get?]
    rw [if_neg (by omega)]
    exact ih (fun e he => h e (by simp [he]))

/-- A sum over the entries after writing one: the written entry replaces what stood at its index. -/
theorem sum_set (t : Table α) (f : Nat × α → Nat) (i : Nat) (v : α) (h : Table.wf t = true) :
    ((Table.set t i v).map f).sum + ((Table.get? t i).map (fun w => f (i, w))).getD 0 = (t.map f).sum + f (i, v) := by
  induction t with
  | nil => simp [Table.set]
  | cons e rest ih =>
    obtain ⟨k, w⟩ := e
    have hk := (wf_cons k w rest).mp h
    unfold Table.set
    split
    · rename_i hlt
      have hnone : Table.get? ((k, w) :: rest) i = none :=
        get?_none_of_lt _ i (by
          intro e he
          simp at he
          rcases he with he | he
          · simp [he, hlt]
          · exact Nat.lt_trans hlt (hk.2 e he))
      rw [hnone]
      simp
      omega
    · split
      · rename_i _ heq
        subst heq
        simp [Table.get?]
        omega
      · rename_i h1 h2
        have hne : k ≠ i := fun h => h2 h.symm
        have := ih hk.1
        simp only [List.map_cons, List.sum_cons, Table.get?, if_neg hne] at this ⊢
        omega

end Sys2Proof.Table
end

