-- ==== Sys2Proof/Laws/Canonical.lean ====
section
/-! SUPPORT. Every operation that writes the map or a link's pending events keeps their canonical form, and the tables
after reset have it. -/

namespace Sys2Proof.Machine

/-- The map's two tables have their canonical form. -/
def Plate.canonical (p : Plate) : Prop := p.contours.wf = true ∧ p.holes.wf = true

theorem canonical_reset : Plate.reset.canonical := ⟨rfl, rfl⟩

theorem canonical_modContour (s : State) (i : Nat) (f : Contour → Contour) (h : s.plate.canonical) :
    (s.modContour i f).plate.canonical := ⟨Table.wf_modify _ _ _ h.1, h.2⟩

theorem canonical_modHole (s : State) (i : Nat) (f : Hole → Hole) (h : s.plate.canonical) :
    (s.modHole i f).plate.canonical := ⟨h.1, Table.wf_modify _ _ _ h.2⟩

theorem canonical_modLive (s : State) (i : Nat) (f : ContourLive → ContourLive) (h : s.plate.canonical) :
    (s.modLive i f).plate.canonical := canonical_modContour s i _ h

theorem canonical_modHoleLive (s : State) (i : Nat) (f : HoleLive → HoleLive) (h : s.plate.canonical) :
    (s.modHoleLive i f).plate.canonical := canonical_modHole s i _ h

theorem canonical_putContour (s : State) (i : Nat) (c : Contour) (h : s.plate.canonical) :
    (putContour i c s).plate.canonical := ⟨Table.wf_set _ _ _ h.1, h.2⟩

theorem canonical_putHole (p : Plate) (i : Nat) (v : Hole) (h : p.canonical) :
    Plate.canonical { p with holes := Table.set p.holes i v } := ⟨h.1, Table.wf_set _ _ _ h.2⟩

theorem canonical_passed (p : Plate) (h : p.canonical) : p.passed.canonical := by
  constructor
  · simp only [Plate.passed]; exact Table.wf_mapAll _ _ h.1
  · simp only [Plate.passed]; exact Table.wf_mapAll _ _ h.2

theorem canonical_failed (p : Plate) (e : List MapError) (h : p.canonical) : (p.failed e).canonical := h

theorem canonical_stripped (p : Plate) (h : p.canonical) : p.stripped.canonical := by
  constructor
  · simp only [Plate.stripped]; exact Table.wf_mapAll _ _ h.1
  · simp only [Plate.stripped]; exact Table.wf_mapAll _ _ h.2

theorem wf_loseInside (i : Nat) (t : Table Hole) (h : t.wf = true) : (loseInside i t).wf = true :=
  Table.wf_mapAll _ _ h

theorem canonical_capHoles (n : Nat) (s : State) (h : s.plate.canonical) : (capHoles n s).plate.canonical := by
  unfold capHoles
  split
  · refine ⟨h.1, ?_⟩
    simp only
    exact Table.wf_mapAll _ _ h.2
  · exact h

theorem canonical_changeRetention (i : Nat) (r : RState) (s : State) (h : s.plate.canonical) :
    (changeRetention i r s).plate.canonical := by
  have h1 : (s.modLive i (fun v => { v with state := r })).plate.canonical := canonical_modLive s i _ h
  unfold changeRetention
  split
  · exact ⟨h1.1, wf_loseInside i _ h1.2⟩
  · exact h1

theorem canonical_evaluate (i : Nat) (s : State) (h : s.plate.canonical) : (evaluate i s).plate.canonical := by
  simp only [evaluate]
  (repeat' split) <;> first | exact h | exact canonical_changeRetention _ _ _ h

theorem canonical_mergeCredit (r : Run) (a b : Nat) (s : State) (h : s.plate.canonical) :
    (mergeCredit r a b s).plate.canonical := by
  simp only [mergeCredit]
  (repeat' split) <;> first | exact h | exact canonical_evaluate _ _ (canonical_modLive _ _ _ h)

/-- Posting keeps the pending events in their canonical form. -/
theorem wf_posted (k : LinkState) (l : Link) (e : Event) (h : k.raw.wf = true) : (k.posted l e).raw.wf = true := by
  unfold LinkState.posted
  split
  · exact Table.wf_set _ _ _ h
  · exact h

/-- Clearing keeps them so. -/
theorem wf_cleared (k : LinkState) (set : EventSet) (h : k.raw.wf = true) : (k.cleared set).raw.wf = true :=
  Table.wf_filter _ _ h

end Sys2Proof.Machine
end

