-- ==== Sys2Proof/Laws/State.lean ====
section
/-! SUPPORT. One lemma per field for each operation that updates the state: what the operation leaves alone reads as
before, and what it writes reads as written. -/

namespace Sys2Proof.Machine

/-! ### Links and axes -/

@[simp] theorem setLink_resetLow (s : State) (l : Link) (v : LinkState) : (s.setLink l v).resetLow = s.resetLow := by cases l <;> rfl
@[simp] theorem setLink_device (s : State) (l : Link) (v : LinkState) : (s.setLink l v).device = s.device := by cases l <;> rfl
@[simp] theorem setLink_selfTest (s : State) (l : Link) (v : LinkState) : (s.setLink l v).selfTest = s.selfTest := by cases l <;> rfl
@[simp] theorem setLink_selfTestLeft (s : State) (l : Link) (v : LinkState) : (s.setLink l v).selfTestLeft = s.selfTestLeft := by cases l <;> rfl
@[simp] theorem setLink_cfg (s : State) (l : Link) (v : LinkState) : (s.setLink l v).cfg = s.cfg := by cases l <;> rfl
@[simp] theorem setLink_axisX (s : State) (l : Link) (v : LinkState) : (s.setLink l v).axisX = s.axisX := by cases l <;> rfl
@[simp] theorem setLink_axisY (s : State) (l : Link) (v : LinkState) : (s.setLink l v).axisY = s.axisY := by cases l <;> rfl
@[simp] theorem setLink_plate (s : State) (l : Link) (v : LinkState) : (s.setLink l v).plate = s.plate := by cases l <;> rfl
@[simp] theorem setLink_prog (s : State) (l : Link) (v : LinkState) : (s.setLink l v).prog = s.prog := by cases l <;> rfl
@[simp] theorem setLink_sampling (s : State) (l : Link) (v : LinkState) : (s.setLink l v).sampling = s.sampling := by cases l <;> rfl
@[simp] theorem setLink_run (s : State) (l : Link) (v : LinkState) : (s.setLink l v).run = s.run := by cases l <;> rfl
@[simp] theorem setLink_lastRun (s : State) (l : Link) (v : LinkState) : (s.setLink l v).lastRun = s.lastRun := by cases l <;> rfl
@[simp] theorem setLink_runCounter (s : State) (l : Link) (v : LinkState) : (s.setLink l v).runCounter = s.runCounter := by cases l <;> rfl
@[simp] theorem setLink_gap (s : State) (l : Link) (v : LinkState) : (s.setLink l v).gap = s.gap := by cases l <;> rfl
@[simp] theorem setLink_planner (s : State) (l : Link) (v : LinkState) : (s.setLink l v).planner = s.planner := by cases l <;> rfl
@[simp] theorem setLink_catchSet (s : State) (l : Link) (v : LinkState) : (s.setLink l v).catchSet = s.catchSet := by cases l <;> rfl
@[simp] theorem setLink_sparkOk (s : State) (l : Link) (v : LinkState) : (s.setLink l v).sparkOk = s.sparkOk := by cases l <;> rfl
@[simp] theorem setLink_threadOk (s : State) (l : Link) (v : LinkState) : (s.setLink l v).threadOk = s.threadOk := by cases l <;> rfl
@[simp] theorem setLink_holdIn (s : State) (l : Link) (v : LinkState) : (s.setLink l v).holdIn = s.holdIn := by cases l <;> rfl
@[simp] theorem setLink_shortIn (s : State) (l : Link) (v : LinkState) : (s.setLink l v).shortIn = s.shortIn := by cases l <;> rfl
@[simp] theorem setLink_trace (s : State) (l : Link) (v : LinkState) : (s.setLink l v).trace = s.trace := by cases l <;> rfl
@[simp] theorem setLink_freeCount (s : State) (l : Link) (v : LinkState) : (s.setLink l v).freeCount = s.freeCount := by cases l <;> rfl
@[simp] theorem setLink_pending (s : State) (l : Link) (v : LinkState) : (s.setLink l v).pending = s.pending := by cases l <;> rfl
@[simp] theorem modLink_resetLow (s : State) (l : Link) (f : LinkState → LinkState) : (s.modLink l f).resetLow = s.resetLow := by cases l <;> rfl
@[simp] theorem modLink_device (s : State) (l : Link) (f : LinkState → LinkState) : (s.modLink l f).device = s.device := by cases l <;> rfl
@[simp] theorem modLink_selfTest (s : State) (l : Link) (f : LinkState → LinkState) : (s.modLink l f).selfTest = s.selfTest := by cases l <;> rfl
@[simp] theorem modLink_selfTestLeft (s : State) (l : Link) (f : LinkState → LinkState) : (s.modLink l f).selfTestLeft = s.selfTestLeft := by cases l <;> rfl
@[simp] theorem modLink_cfg (s : State) (l : Link) (f : LinkState → LinkState) : (s.modLink l f).cfg = s.cfg := by cases l <;> rfl
@[simp] theorem modLink_axisX (s : State) (l : Link) (f : LinkState → LinkState) : (s.modLink l f).axisX = s.axisX := by cases l <;> rfl
@[simp] theorem modLink_axisY (s : State) (l : Link) (f : LinkState → LinkState) : (s.modLink l f).axisY = s.axisY := by cases l <;> rfl
@[simp] theorem modLink_plate (s : State) (l : Link) (f : LinkState → LinkState) : (s.modLink l f).plate = s.plate := by cases l <;> rfl
@[simp] theorem modLink_prog (s : State) (l : Link) (f : LinkState → LinkState) : (s.modLink l f).prog = s.prog := by cases l <;> rfl
@[simp] theorem modLink_sampling (s : State) (l : Link) (f : LinkState → LinkState) : (s.modLink l f).sampling = s.sampling := by cases l <;> rfl
@[simp] theorem modLink_run (s : State) (l : Link) (f : LinkState → LinkState) : (s.modLink l f).run = s.run := by cases l <;> rfl
@[simp] theorem modLink_lastRun (s : State) (l : Link) (f : LinkState → LinkState) : (s.modLink l f).lastRun = s.lastRun := by cases l <;> rfl
@[simp] theorem modLink_runCounter (s : State) (l : Link) (f : LinkState → LinkState) : (s.modLink l f).runCounter = s.runCounter := by cases l <;> rfl
@[simp] theorem modLink_gap (s : State) (l : Link) (f : LinkState → LinkState) : (s.modLink l f).gap = s.gap := by cases l <;> rfl
@[simp] theorem modLink_planner (s : State) (l : Link) (f : LinkState → LinkState) : (s.modLink l f).planner = s.planner := by cases l <;> rfl
@[simp] theorem modLink_catchSet (s : State) (l : Link) (f : LinkState → LinkState) : (s.modLink l f).catchSet = s.catchSet := by cases l <;> rfl
@[simp] theorem modLink_sparkOk (s : State) (l : Link) (f : LinkState → LinkState) : (s.modLink l f).sparkOk = s.sparkOk := by cases l <;> rfl
@[simp] theorem modLink_threadOk (s : State) (l : Link) (f : LinkState → LinkState) : (s.modLink l f).threadOk = s.threadOk := by cases l <;> rfl
@[simp] theorem modLink_holdIn (s : State) (l : Link) (f : LinkState → LinkState) : (s.modLink l f).holdIn = s.holdIn := by cases l <;> rfl
@[simp] theorem modLink_shortIn (s : State) (l : Link) (f : LinkState → LinkState) : (s.modLink l f).shortIn = s.shortIn := by cases l <;> rfl
@[simp] theorem modLink_trace (s : State) (l : Link) (f : LinkState → LinkState) : (s.modLink l f).trace = s.trace := by cases l <;> rfl
@[simp] theorem modLink_freeCount (s : State) (l : Link) (f : LinkState → LinkState) : (s.modLink l f).freeCount = s.freeCount := by cases l <;> rfl
@[simp] theorem modLink_pending (s : State) (l : Link) (f : LinkState → LinkState) : (s.modLink l f).pending = s.pending := by cases l <;> rfl
@[simp] theorem link_setLink (s : State) (l : Link) (v : LinkState) : (s.setLink l v).link l = v := by cases l <;> rfl
theorem link_setLink_other (s : State) (l m : Link) (v : LinkState) (h : m ≠ l) : (s.setLink l v).link m = s.link m := by
  cases l <;> cases m <;> first | rfl | exact absurd rfl h
@[simp] theorem link_modLink (s : State) (l : Link) (f : LinkState → LinkState) : (s.modLink l f).link l = f (s.link l) := by cases l <;> rfl
theorem link_modLink_other (s : State) (l m : Link) (f : LinkState → LinkState) (h : m ≠ l) : (s.modLink l f).link m = s.link m :=
  link_setLink_other s l m _ h
@[simp] theorem setAxis_resetLow (s : State) (a : Axis) (v : Channel) : (s.setAxis a v).resetLow = s.resetLow := by cases a <;> rfl
@[simp] theorem setAxis_device (s : State) (a : Axis) (v : Channel) : (s.setAxis a v).device = s.device := by cases a <;> rfl
@[simp] theorem setAxis_selfTest (s : State) (a : Axis) (v : Channel) : (s.setAxis a v).selfTest = s.selfTest := by cases a <;> rfl
@[simp] theorem setAxis_selfTestLeft (s : State) (a : Axis) (v : Channel) : (s.setAxis a v).selfTestLeft = s.selfTestLeft := by cases a <;> rfl
@[simp] theorem setAxis_cfg (s : State) (a : Axis) (v : Channel) : (s.setAxis a v).cfg = s.cfg := by cases a <;> rfl
@[simp] theorem setAxis_plate (s : State) (a : Axis) (v : Channel) : (s.setAxis a v).plate = s.plate := by cases a <;> rfl
@[simp] theorem setAxis_prog (s : State) (a : Axis) (v : Channel) : (s.setAxis a v).prog = s.prog := by cases a <;> rfl
@[simp] theorem setAxis_sampling (s : State) (a : Axis) (v : Channel) : (s.setAxis a v).sampling = s.sampling := by cases a <;> rfl
@[simp] theorem setAxis_run (s : State) (a : Axis) (v : Channel) : (s.setAxis a v).run = s.run := by cases a <;> rfl
@[simp] theorem setAxis_lastRun (s : State) (a : Axis) (v : Channel) : (s.setAxis a v).lastRun = s.lastRun := by cases a <;> rfl
@[simp] theorem setAxis_runCounter (s : State) (a : Axis) (v : Channel) : (s.setAxis a v).runCounter = s.runCounter := by cases a <;> rfl
@[simp] theorem setAxis_gap (s : State) (a : Axis) (v : Channel) : (s.setAxis a v).gap = s.gap := by cases a <;> rfl
@[simp] theorem setAxis_planner (s : State) (a : Axis) (v : Channel) : (s.setAxis a v).planner = s.planner := by cases a <;> rfl
@[simp] theorem setAxis_catchSet (s : State) (a : Axis) (v : Channel) : (s.setAxis a v).catchSet = s.catchSet := by cases a <;> rfl
@[simp] theorem setAxis_sparkOk (s : State) (a : Axis) (v : Channel) : (s.setAxis a v).sparkOk = s.sparkOk := by cases a <;> rfl
@[simp] theorem setAxis_threadOk (s : State) (a : Axis) (v : Channel) : (s.setAxis a v).threadOk = s.threadOk := by cases a <;> rfl
@[simp] theorem setAxis_holdIn (s : State) (a : Axis) (v : Channel) : (s.setAxis a v).holdIn = s.holdIn := by cases a <;> rfl
@[simp] theorem setAxis_shortIn (s : State) (a : Axis) (v : Channel) : (s.setAxis a v).shortIn = s.shortIn := by cases a <;> rfl
@[simp] theorem setAxis_motion (s : State) (a : Axis) (v : Channel) : (s.setAxis a v).motion = s.motion := by cases a <;> rfl
@[simp] theorem setAxis_thread (s : State) (a : Axis) (v : Channel) : (s.setAxis a v).thread = s.thread := by cases a <;> rfl
@[simp] theorem setAxis_cell (s : State) (a : Axis) (v : Channel) : (s.setAxis a v).cell = s.cell := by cases a <;> rfl
@[simp] theorem setAxis_trace (s : State) (a : Axis) (v : Channel) : (s.setAxis a v).trace = s.trace := by cases a <;> rfl
@[simp] theorem setAxis_freeCount (s : State) (a : Axis) (v : Channel) : (s.setAxis a v).freeCount = s.freeCount := by cases a <;> rfl
@[simp] theorem setAxis_pending (s : State) (a : Axis) (v : Channel) : (s.setAxis a v).pending = s.pending := by cases a <;> rfl
@[simp] theorem axis_setAxis (s : State) (a : Axis) (v : Channel) : (s.setAxis a v).axis a = v := by cases a <;> rfl

/-! ### Blocks -/

@[simp] theorem modRun_resetLow (s : State) (f : Run → Run) : (s.modRun f).resetLow = s.resetLow := rfl
@[simp] theorem modRun_device (s : State) (f : Run → Run) : (s.modRun f).device = s.device := rfl
@[simp] theorem modRun_selfTest (s : State) (f : Run → Run) : (s.modRun f).selfTest = s.selfTest := rfl
@[simp] theorem modRun_selfTestLeft (s : State) (f : Run → Run) : (s.modRun f).selfTestLeft = s.selfTestLeft := rfl
@[simp] theorem modRun_cfg (s : State) (f : Run → Run) : (s.modRun f).cfg = s.cfg := rfl
@[simp] theorem modRun_axisX (s : State) (f : Run → Run) : (s.modRun f).axisX = s.axisX := rfl
@[simp] theorem modRun_axisY (s : State) (f : Run → Run) : (s.modRun f).axisY = s.axisY := rfl
@[simp] theorem modRun_plate (s : State) (f : Run → Run) : (s.modRun f).plate = s.plate := rfl
@[simp] theorem modRun_prog (s : State) (f : Run → Run) : (s.modRun f).prog = s.prog := rfl
@[simp] theorem modRun_sampling (s : State) (f : Run → Run) : (s.modRun f).sampling = s.sampling := rfl
@[simp] theorem modRun_lastRun (s : State) (f : Run → Run) : (s.modRun f).lastRun = s.lastRun := rfl
@[simp] theorem modRun_runCounter (s : State) (f : Run → Run) : (s.modRun f).runCounter = s.runCounter := rfl
@[simp] theorem modRun_gap (s : State) (f : Run → Run) : (s.modRun f).gap = s.gap := rfl
@[simp] theorem modRun_planner (s : State) (f : Run → Run) : (s.modRun f).planner = s.planner := rfl
@[simp] theorem modRun_catchSet (s : State) (f : Run → Run) : (s.modRun f).catchSet = s.catchSet := rfl
@[simp] theorem modRun_sparkOk (s : State) (f : Run → Run) : (s.modRun f).sparkOk = s.sparkOk := rfl
@[simp] theorem modRun_threadOk (s : State) (f : Run → Run) : (s.modRun f).threadOk = s.threadOk := rfl
@[simp] theorem modRun_holdIn (s : State) (f : Run → Run) : (s.modRun f).holdIn = s.holdIn := rfl
@[simp] theorem modRun_shortIn (s : State) (f : Run → Run) : (s.modRun f).shortIn = s.shortIn := rfl
@[simp] theorem modRun_motion (s : State) (f : Run → Run) : (s.modRun f).motion = s.motion := rfl
@[simp] theorem modRun_thread (s : State) (f : Run → Run) : (s.modRun f).thread = s.thread := rfl
@[simp] theorem modRun_cell (s : State) (f : Run → Run) : (s.modRun f).cell = s.cell := rfl
@[simp] theorem modRun_trace (s : State) (f : Run → Run) : (s.modRun f).trace = s.trace := rfl
@[simp] theorem modRun_freeCount (s : State) (f : Run → Run) : (s.modRun f).freeCount = s.freeCount := rfl
@[simp] theorem modRun_pending (s : State) (f : Run → Run) : (s.modRun f).pending = s.pending := rfl
@[simp] theorem modRun_run (s : State) (f : Run → Run) : (s.modRun f).run = s.run.map f := rfl
@[simp] theorem modGap_resetLow (s : State) (f : Gap → Gap) : (s.modGap f).resetLow = s.resetLow := rfl
@[simp] theorem modGap_device (s : State) (f : Gap → Gap) : (s.modGap f).device = s.device := rfl
@[simp] theorem modGap_selfTest (s : State) (f : Gap → Gap) : (s.modGap f).selfTest = s.selfTest := rfl
@[simp] theorem modGap_selfTestLeft (s : State) (f : Gap → Gap) : (s.modGap f).selfTestLeft = s.selfTestLeft := rfl
@[simp] theorem modGap_cfg (s : State) (f : Gap → Gap) : (s.modGap f).cfg = s.cfg := rfl
@[simp] theorem modGap_axisX (s : State) (f : Gap → Gap) : (s.modGap f).axisX = s.axisX := rfl
@[simp] theorem modGap_axisY (s : State) (f : Gap → Gap) : (s.modGap f).axisY = s.axisY := rfl
@[simp] theorem modGap_plate (s : State) (f : Gap → Gap) : (s.modGap f).plate = s.plate := rfl
@[simp] theorem modGap_prog (s : State) (f : Gap → Gap) : (s.modGap f).prog = s.prog := rfl
@[simp] theorem modGap_sampling (s : State) (f : Gap → Gap) : (s.modGap f).sampling = s.sampling := rfl
@[simp] theorem modGap_run (s : State) (f : Gap → Gap) : (s.modGap f).run = s.run := rfl
@[simp] theorem modGap_lastRun (s : State) (f : Gap → Gap) : (s.modGap f).lastRun = s.lastRun := rfl
@[simp] theorem modGap_runCounter (s : State) (f : Gap → Gap) : (s.modGap f).runCounter = s.runCounter := rfl
@[simp] theorem modGap_planner (s : State) (f : Gap → Gap) : (s.modGap f).planner = s.planner := rfl
@[simp] theorem modGap_catchSet (s : State) (f : Gap → Gap) : (s.modGap f).catchSet = s.catchSet := rfl
@[simp] theorem modGap_sparkOk (s : State) (f : Gap → Gap) : (s.modGap f).sparkOk = s.sparkOk := rfl
@[simp] theorem modGap_threadOk (s : State) (f : Gap → Gap) : (s.modGap f).threadOk = s.threadOk := rfl
@[simp] theorem modGap_holdIn (s : State) (f : Gap → Gap) : (s.modGap f).holdIn = s.holdIn := rfl
@[simp] theorem modGap_shortIn (s : State) (f : Gap → Gap) : (s.modGap f).shortIn = s.shortIn := rfl
@[simp] theorem modGap_motion (s : State) (f : Gap → Gap) : (s.modGap f).motion = s.motion := rfl
@[simp] theorem modGap_thread (s : State) (f : Gap → Gap) : (s.modGap f).thread = s.thread := rfl
@[simp] theorem modGap_cell (s : State) (f : Gap → Gap) : (s.modGap f).cell = s.cell := rfl
@[simp] theorem modGap_trace (s : State) (f : Gap → Gap) : (s.modGap f).trace = s.trace := rfl
@[simp] theorem modGap_freeCount (s : State) (f : Gap → Gap) : (s.modGap f).freeCount = s.freeCount := rfl
@[simp] theorem modGap_pending (s : State) (f : Gap → Gap) : (s.modGap f).pending = s.pending := rfl
@[simp] theorem modGap_gap (s : State) (f : Gap → Gap) : (s.modGap f).gap = f s.gap := rfl
@[simp] theorem modPlanner_resetLow (s : State) (f : Planner → Planner) : (s.modPlanner f).resetLow = s.resetLow := rfl
@[simp] theorem modPlanner_device (s : State) (f : Planner → Planner) : (s.modPlanner f).device = s.device := rfl
@[simp] theorem modPlanner_selfTest (s : State) (f : Planner → Planner) : (s.modPlanner f).selfTest = s.selfTest := rfl
@[simp] theorem modPlanner_selfTestLeft (s : State) (f : Planner → Planner) : (s.modPlanner f).selfTestLeft = s.selfTestLeft := rfl
@[simp] theorem modPlanner_cfg (s : State) (f : Planner → Planner) : (s.modPlanner f).cfg = s.cfg := rfl
@[simp] theorem modPlanner_axisX (s : State) (f : Planner → Planner) : (s.modPlanner f).axisX = s.axisX := rfl
@[simp] theorem modPlanner_axisY (s : State) (f : Planner → Planner) : (s.modPlanner f).axisY = s.axisY := rfl
@[simp] theorem modPlanner_plate (s : State) (f : Planner → Planner) : (s.modPlanner f).plate = s.plate := rfl
@[simp] theorem modPlanner_prog (s : State) (f : Planner → Planner) : (s.modPlanner f).prog = s.prog := rfl
@[simp] theorem modPlanner_sampling (s : State) (f : Planner → Planner) : (s.modPlanner f).sampling = s.sampling := rfl
@[simp] theorem modPlanner_run (s : State) (f : Planner → Planner) : (s.modPlanner f).run = s.run := rfl
@[simp] theorem modPlanner_lastRun (s : State) (f : Planner → Planner) : (s.modPlanner f).lastRun = s.lastRun := rfl
@[simp] theorem modPlanner_runCounter (s : State) (f : Planner → Planner) : (s.modPlanner f).runCounter = s.runCounter := rfl
@[simp] theorem modPlanner_gap (s : State) (f : Planner → Planner) : (s.modPlanner f).gap = s.gap := rfl
@[simp] theorem modPlanner_catchSet (s : State) (f : Planner → Planner) : (s.modPlanner f).catchSet = s.catchSet := rfl
@[simp] theorem modPlanner_sparkOk (s : State) (f : Planner → Planner) : (s.modPlanner f).sparkOk = s.sparkOk := rfl
@[simp] theorem modPlanner_threadOk (s : State) (f : Planner → Planner) : (s.modPlanner f).threadOk = s.threadOk := rfl
@[simp] theorem modPlanner_holdIn (s : State) (f : Planner → Planner) : (s.modPlanner f).holdIn = s.holdIn := rfl
@[simp] theorem modPlanner_shortIn (s : State) (f : Planner → Planner) : (s.modPlanner f).shortIn = s.shortIn := rfl
@[simp] theorem modPlanner_motion (s : State) (f : Planner → Planner) : (s.modPlanner f).motion = s.motion := rfl
@[simp] theorem modPlanner_thread (s : State) (f : Planner → Planner) : (s.modPlanner f).thread = s.thread := rfl
@[simp] theorem modPlanner_cell (s : State) (f : Planner → Planner) : (s.modPlanner f).cell = s.cell := rfl
@[simp] theorem modPlanner_trace (s : State) (f : Planner → Planner) : (s.modPlanner f).trace = s.trace := rfl
@[simp] theorem modPlanner_freeCount (s : State) (f : Planner → Planner) : (s.modPlanner f).freeCount = s.freeCount := rfl
@[simp] theorem modPlanner_pending (s : State) (f : Planner → Planner) : (s.modPlanner f).pending = s.pending := rfl
@[simp] theorem modPlanner_planner (s : State) (f : Planner → Planner) : (s.modPlanner f).planner = f s.planner := rfl
@[simp] theorem modContour_resetLow (s : State) (i : Nat) (f : Contour → Contour) : (s.modContour i f).resetLow = s.resetLow := rfl
@[simp] theorem modContour_device (s : State) (i : Nat) (f : Contour → Contour) : (s.modContour i f).device = s.device := rfl
@[simp] theorem modContour_selfTest (s : State) (i : Nat) (f : Contour → Contour) : (s.modContour i f).selfTest = s.selfTest := rfl
@[simp] theorem modContour_selfTestLeft (s : State) (i : Nat) (f : Contour → Contour) : (s.modContour i f).selfTestLeft = s.selfTestLeft := rfl
@[simp] theorem modContour_cfg (s : State) (i : Nat) (f : Contour → Contour) : (s.modContour i f).cfg = s.cfg := rfl
@[simp] theorem modContour_axisX (s : State) (i : Nat) (f : Contour → Contour) : (s.modContour i f).axisX = s.axisX := rfl
@[simp] theorem modContour_axisY (s : State) (i : Nat) (f : Contour → Contour) : (s.modContour i f).axisY = s.axisY := rfl
@[simp] theorem modContour_prog (s : State) (i : Nat) (f : Contour → Contour) : (s.modContour i f).prog = s.prog := rfl
@[simp] theorem modContour_sampling (s : State) (i : Nat) (f : Contour → Contour) : (s.modContour i f).sampling = s.sampling := rfl
@[simp] theorem modContour_run (s : State) (i : Nat) (f : Contour → Contour) : (s.modContour i f).run = s.run := rfl
@[simp] theorem modContour_lastRun (s : State) (i : Nat) (f : Contour → Contour) : (s.modContour i f).lastRun = s.lastRun := rfl
@[simp] theorem modContour_runCounter (s : State) (i : Nat) (f : Contour → Contour) : (s.modContour i f).runCounter = s.runCounter := rfl
@[simp] theorem modContour_gap (s : State) (i : Nat) (f : Contour → Contour) : (s.modContour i f).gap = s.gap := rfl
@[simp] theorem modContour_planner (s : State) (i : Nat) (f : Contour → Contour) : (s.modContour i f).planner = s.planner := rfl
@[simp] theorem modContour_catchSet (s : State) (i : Nat) (f : Contour → Contour) : (s.modContour i f).catchSet = s.catchSet := rfl
@[simp] theorem modContour_sparkOk (s : State) (i : Nat) (f : Contour → Contour) : (s.modContour i f).sparkOk = s.sparkOk := rfl
@[simp] theorem modContour_threadOk (s : State) (i : Nat) (f : Contour → Contour) : (s.modContour i f).threadOk = s.threadOk := rfl
@[simp] theorem modContour_holdIn (s : State) (i : Nat) (f : Contour → Contour) : (s.modContour i f).holdIn = s.holdIn := rfl
@[simp] theorem modContour_shortIn (s : State) (i : Nat) (f : Contour → Contour) : (s.modContour i f).shortIn = s.shortIn := rfl
@[simp] theorem modContour_motion (s : State) (i : Nat) (f : Contour → Contour) : (s.modContour i f).motion = s.motion := rfl
@[simp] theorem modContour_thread (s : State) (i : Nat) (f : Contour → Contour) : (s.modContour i f).thread = s.thread := rfl
@[simp] theorem modContour_cell (s : State) (i : Nat) (f : Contour → Contour) : (s.modContour i f).cell = s.cell := rfl
@[simp] theorem modContour_trace (s : State) (i : Nat) (f : Contour → Contour) : (s.modContour i f).trace = s.trace := rfl
@[simp] theorem modContour_freeCount (s : State) (i : Nat) (f : Contour → Contour) : (s.modContour i f).freeCount = s.freeCount := rfl
@[simp] theorem modContour_pending (s : State) (i : Nat) (f : Contour → Contour) : (s.modContour i f).pending = s.pending := rfl
@[simp] theorem modContour_plate_state (s : State) (i : Nat) (f : Contour → Contour) : (s.modContour i f).plate.state = s.plate.state := rfl
@[simp] theorem modContour_plate_ident (s : State) (i : Nat) (f : Contour → Contour) : (s.modContour i f).plate.ident = s.plate.ident := rfl
@[simp] theorem modContour_plate_errors (s : State) (i : Nat) (f : Contour → Contour) : (s.modContour i f).plate.errors = s.plate.errors := rfl
@[simp] theorem modContour_plate_more (s : State) (i : Nat) (f : Contour → Contour) : (s.modContour i f).plate.more = s.plate.more := rfl
@[simp] theorem modContour_plate_entryTol (s : State) (i : Nat) (f : Contour → Contour) : (s.modContour i f).plate.entryTol = s.plate.entryTol := rfl
@[simp] theorem modContour_plate_validation (s : State) (i : Nat) (f : Contour → Contour) : (s.modContour i f).plate.validation = s.plate.validation := rfl
@[simp] theorem modHole_resetLow (s : State) (i : Nat) (f : Hole → Hole) : (s.modHole i f).resetLow = s.resetLow := rfl
@[simp] theorem modHole_device (s : State) (i : Nat) (f : Hole → Hole) : (s.modHole i f).device = s.device := rfl
@[simp] theorem modHole_selfTest (s : State) (i : Nat) (f : Hole → Hole) : (s.modHole i f).selfTest = s.selfTest := rfl
@[simp] theorem modHole_selfTestLeft (s : State) (i : Nat) (f : Hole → Hole) : (s.modHole i f).selfTestLeft = s.selfTestLeft := rfl
@[simp] theorem modHole_cfg (s : State) (i : Nat) (f : Hole → Hole) : (s.modHole i f).cfg = s.cfg := rfl
@[simp] theorem modHole_axisX (s : State) (i : Nat) (f : Hole → Hole) : (s.modHole i f).axisX = s.axisX := rfl
@[simp] theorem modHole_axisY (s : State) (i : Nat) (f : Hole → Hole) : (s.modHole i f).axisY = s.axisY := rfl
@[simp] theorem modHole_prog (s : State) (i : Nat) (f : Hole → Hole) : (s.modHole i f).prog = s.prog := rfl
@[simp] theorem modHole_sampling (s : State) (i : Nat) (f : Hole → Hole) : (s.modHole i f).sampling = s.sampling := rfl
@[simp] theorem modHole_run (s : State) (i : Nat) (f : Hole → Hole) : (s.modHole i f).run = s.run := rfl
@[simp] theorem modHole_lastRun (s : State) (i : Nat) (f : Hole → Hole) : (s.modHole i f).lastRun = s.lastRun := rfl
@[simp] theorem modHole_runCounter (s : State) (i : Nat) (f : Hole → Hole) : (s.modHole i f).runCounter = s.runCounter := rfl
@[simp] theorem modHole_gap (s : State) (i : Nat) (f : Hole → Hole) : (s.modHole i f).gap = s.gap := rfl
@[simp] theorem modHole_planner (s : State) (i : Nat) (f : Hole → Hole) : (s.modHole i f).planner = s.planner := rfl
@[simp] theorem modHole_catchSet (s : State) (i : Nat) (f : Hole → Hole) : (s.modHole i f).catchSet = s.catchSet := rfl
@[simp] theorem modHole_sparkOk (s : State) (i : Nat) (f : Hole → Hole) : (s.modHole i f).sparkOk = s.sparkOk := rfl
@[simp] theorem modHole_threadOk (s : State) (i : Nat) (f : Hole → Hole) : (s.modHole i f).threadOk = s.threadOk := rfl
@[simp] theorem modHole_holdIn (s : State) (i : Nat) (f : Hole → Hole) : (s.modHole i f).holdIn = s.holdIn := rfl
@[simp] theorem modHole_shortIn (s : State) (i : Nat) (f : Hole → Hole) : (s.modHole i f).shortIn = s.shortIn := rfl
@[simp] theorem modHole_motion (s : State) (i : Nat) (f : Hole → Hole) : (s.modHole i f).motion = s.motion := rfl
@[simp] theorem modHole_thread (s : State) (i : Nat) (f : Hole → Hole) : (s.modHole i f).thread = s.thread := rfl
@[simp] theorem modHole_cell (s : State) (i : Nat) (f : Hole → Hole) : (s.modHole i f).cell = s.cell := rfl
@[simp] theorem modHole_trace (s : State) (i : Nat) (f : Hole → Hole) : (s.modHole i f).trace = s.trace := rfl
@[simp] theorem modHole_freeCount (s : State) (i : Nat) (f : Hole → Hole) : (s.modHole i f).freeCount = s.freeCount := rfl
@[simp] theorem modHole_pending (s : State) (i : Nat) (f : Hole → Hole) : (s.modHole i f).pending = s.pending := rfl
@[simp] theorem modHole_plate_state (s : State) (i : Nat) (f : Hole → Hole) : (s.modHole i f).plate.state = s.plate.state := rfl
@[simp] theorem modHole_plate_ident (s : State) (i : Nat) (f : Hole → Hole) : (s.modHole i f).plate.ident = s.plate.ident := rfl
@[simp] theorem modHole_plate_errors (s : State) (i : Nat) (f : Hole → Hole) : (s.modHole i f).plate.errors = s.plate.errors := rfl
@[simp] theorem modHole_plate_more (s : State) (i : Nat) (f : Hole → Hole) : (s.modHole i f).plate.more = s.plate.more := rfl
@[simp] theorem modHole_plate_entryTol (s : State) (i : Nat) (f : Hole → Hole) : (s.modHole i f).plate.entryTol = s.plate.entryTol := rfl
@[simp] theorem modHole_plate_validation (s : State) (i : Nat) (f : Hole → Hole) : (s.modHole i f).plate.validation = s.plate.validation := rfl
@[simp] theorem modLive_resetLow (s : State) (i : Nat) (f : ContourLive → ContourLive) : (s.modLive i f).resetLow = s.resetLow := rfl
@[simp] theorem modLive_device (s : State) (i : Nat) (f : ContourLive → ContourLive) : (s.modLive i f).device = s.device := rfl
@[simp] theorem modLive_selfTest (s : State) (i : Nat) (f : ContourLive → ContourLive) : (s.modLive i f).selfTest = s.selfTest := rfl
@[simp] theorem modLive_selfTestLeft (s : State) (i : Nat) (f : ContourLive → ContourLive) : (s.modLive i f).selfTestLeft = s.selfTestLeft := rfl
@[simp] theorem modLive_cfg (s : State) (i : Nat) (f : ContourLive → ContourLive) : (s.modLive i f).cfg = s.cfg := rfl
@[simp] theorem modLive_axisX (s : State) (i : Nat) (f : ContourLive → ContourLive) : (s.modLive i f).axisX = s.axisX := rfl
@[simp] theorem modLive_axisY (s : State) (i : Nat) (f : ContourLive → ContourLive) : (s.modLive i f).axisY = s.axisY := rfl
@[simp] theorem modLive_prog (s : State) (i : Nat) (f : ContourLive → ContourLive) : (s.modLive i f).prog = s.prog := rfl
@[simp] theorem modLive_sampling (s : State) (i : Nat) (f : ContourLive → ContourLive) : (s.modLive i f).sampling = s.sampling := rfl
@[simp] theorem modLive_run (s : State) (i : Nat) (f : ContourLive → ContourLive) : (s.modLive i f).run = s.run := rfl
@[simp] theorem modLive_lastRun (s : State) (i : Nat) (f : ContourLive → ContourLive) : (s.modLive i f).lastRun = s.lastRun := rfl
@[simp] theorem modLive_runCounter (s : State) (i : Nat) (f : ContourLive → ContourLive) : (s.modLive i f).runCounter = s.runCounter := rfl
@[simp] theorem modLive_gap (s : State) (i : Nat) (f : ContourLive → ContourLive) : (s.modLive i f).gap = s.gap := rfl
@[simp] theorem modLive_planner (s : State) (i : Nat) (f : ContourLive → ContourLive) : (s.modLive i f).planner = s.planner := rfl
@[simp] theorem modLive_catchSet (s : State) (i : Nat) (f : ContourLive → ContourLive) : (s.modLive i f).catchSet = s.catchSet := rfl
@[simp] theorem modLive_sparkOk (s : State) (i : Nat) (f : ContourLive → ContourLive) : (s.modLive i f).sparkOk = s.sparkOk := rfl
@[simp] theorem modLive_threadOk (s : State) (i : Nat) (f : ContourLive → ContourLive) : (s.modLive i f).threadOk = s.threadOk := rfl
@[simp] theorem modLive_holdIn (s : State) (i : Nat) (f : ContourLive → ContourLive) : (s.modLive i f).holdIn = s.holdIn := rfl
@[simp] theorem modLive_shortIn (s : State) (i : Nat) (f : ContourLive → ContourLive) : (s.modLive i f).shortIn = s.shortIn := rfl
@[simp] theorem modLive_motion (s : State) (i : Nat) (f : ContourLive → ContourLive) : (s.modLive i f).motion = s.motion := rfl
@[simp] theorem modLive_thread (s : State) (i : Nat) (f : ContourLive → ContourLive) : (s.modLive i f).thread = s.thread := rfl
@[simp] theorem modLive_cell (s : State) (i : Nat) (f : ContourLive → ContourLive) : (s.modLive i f).cell = s.cell := rfl
@[simp] theorem modLive_trace (s : State) (i : Nat) (f : ContourLive → ContourLive) : (s.modLive i f).trace = s.trace := rfl
@[simp] theorem modLive_freeCount (s : State) (i : Nat) (f : ContourLive → ContourLive) : (s.modLive i f).freeCount = s.freeCount := rfl
@[simp] theorem modLive_pending (s : State) (i : Nat) (f : ContourLive → ContourLive) : (s.modLive i f).pending = s.pending := rfl
@[simp] theorem modLive_plate_state (s : State) (i : Nat) (f : ContourLive → ContourLive) : (s.modLive i f).plate.state = s.plate.state := rfl
@[simp] theorem modLive_plate_ident (s : State) (i : Nat) (f : ContourLive → ContourLive) : (s.modLive i f).plate.ident = s.plate.ident := rfl
@[simp] theorem modLive_plate_errors (s : State) (i : Nat) (f : ContourLive → ContourLive) : (s.modLive i f).plate.errors = s.plate.errors := rfl
@[simp] theorem modLive_plate_more (s : State) (i : Nat) (f : ContourLive → ContourLive) : (s.modLive i f).plate.more = s.plate.more := rfl
@[simp] theorem modLive_plate_entryTol (s : State) (i : Nat) (f : ContourLive → ContourLive) : (s.modLive i f).plate.entryTol = s.plate.entryTol := rfl
@[simp] theorem modLive_plate_validation (s : State) (i : Nat) (f : ContourLive → ContourLive) : (s.modLive i f).plate.validation = s.plate.validation := rfl
@[simp] theorem modHoleLive_resetLow (s : State) (i : Nat) (f : HoleLive → HoleLive) : (s.modHoleLive i f).resetLow = s.resetLow := rfl
@[simp] theorem modHoleLive_device (s : State) (i : Nat) (f : HoleLive → HoleLive) : (s.modHoleLive i f).device = s.device := rfl
@[simp] theorem modHoleLive_selfTest (s : State) (i : Nat) (f : HoleLive → HoleLive) : (s.modHoleLive i f).selfTest = s.selfTest := rfl
@[simp] theorem modHoleLive_selfTestLeft (s : State) (i : Nat) (f : HoleLive → HoleLive) : (s.modHoleLive i f).selfTestLeft = s.selfTestLeft := rfl
@[simp] theorem modHoleLive_cfg (s : State) (i : Nat) (f : HoleLive → HoleLive) : (s.modHoleLive i f).cfg = s.cfg := rfl
@[simp] theorem modHoleLive_axisX (s : State) (i : Nat) (f : HoleLive → HoleLive) : (s.modHoleLive i f).axisX = s.axisX := rfl
@[simp] theorem modHoleLive_axisY (s : State) (i : Nat) (f : HoleLive → HoleLive) : (s.modHoleLive i f).axisY = s.axisY := rfl
@[simp] theorem modHoleLive_prog (s : State) (i : Nat) (f : HoleLive → HoleLive) : (s.modHoleLive i f).prog = s.prog := rfl
@[simp] theorem modHoleLive_sampling (s : State) (i : Nat) (f : HoleLive → HoleLive) : (s.modHoleLive i f).sampling = s.sampling := rfl
@[simp] theorem modHoleLive_run (s : State) (i : Nat) (f : HoleLive → HoleLive) : (s.modHoleLive i f).run = s.run := rfl
@[simp] theorem modHoleLive_lastRun (s : State) (i : Nat) (f : HoleLive → HoleLive) : (s.modHoleLive i f).lastRun = s.lastRun := rfl
@[simp] theorem modHoleLive_runCounter (s : State) (i : Nat) (f : HoleLive → HoleLive) : (s.modHoleLive i f).runCounter = s.runCounter := rfl
@[simp] theorem modHoleLive_gap (s : State) (i : Nat) (f : HoleLive → HoleLive) : (s.modHoleLive i f).gap = s.gap := rfl
@[simp] theorem modHoleLive_planner (s : State) (i : Nat) (f : HoleLive → HoleLive) : (s.modHoleLive i f).planner = s.planner := rfl
@[simp] theorem modHoleLive_catchSet (s : State) (i : Nat) (f : HoleLive → HoleLive) : (s.modHoleLive i f).catchSet = s.catchSet := rfl
@[simp] theorem modHoleLive_sparkOk (s : State) (i : Nat) (f : HoleLive → HoleLive) : (s.modHoleLive i f).sparkOk = s.sparkOk := rfl
@[simp] theorem modHoleLive_threadOk (s : State) (i : Nat) (f : HoleLive → HoleLive) : (s.modHoleLive i f).threadOk = s.threadOk := rfl
@[simp] theorem modHoleLive_holdIn (s : State) (i : Nat) (f : HoleLive → HoleLive) : (s.modHoleLive i f).holdIn = s.holdIn := rfl
@[simp] theorem modHoleLive_shortIn (s : State) (i : Nat) (f : HoleLive → HoleLive) : (s.modHoleLive i f).shortIn = s.shortIn := rfl
@[simp] theorem modHoleLive_motion (s : State) (i : Nat) (f : HoleLive → HoleLive) : (s.modHoleLive i f).motion = s.motion := rfl
@[simp] theorem modHoleLive_thread (s : State) (i : Nat) (f : HoleLive → HoleLive) : (s.modHoleLive i f).thread = s.thread := rfl
@[simp] theorem modHoleLive_cell (s : State) (i : Nat) (f : HoleLive → HoleLive) : (s.modHoleLive i f).cell = s.cell := rfl
@[simp] theorem modHoleLive_trace (s : State) (i : Nat) (f : HoleLive → HoleLive) : (s.modHoleLive i f).trace = s.trace := rfl
@[simp] theorem modHoleLive_freeCount (s : State) (i : Nat) (f : HoleLive → HoleLive) : (s.modHoleLive i f).freeCount = s.freeCount := rfl
@[simp] theorem modHoleLive_pending (s : State) (i : Nat) (f : HoleLive → HoleLive) : (s.modHoleLive i f).pending = s.pending := rfl
@[simp] theorem modHoleLive_plate_state (s : State) (i : Nat) (f : HoleLive → HoleLive) : (s.modHoleLive i f).plate.state = s.plate.state := rfl
@[simp] theorem modHoleLive_plate_ident (s : State) (i : Nat) (f : HoleLive → HoleLive) : (s.modHoleLive i f).plate.ident = s.plate.ident := rfl
@[simp] theorem modHoleLive_plate_errors (s : State) (i : Nat) (f : HoleLive → HoleLive) : (s.modHoleLive i f).plate.errors = s.plate.errors := rfl
@[simp] theorem modHoleLive_plate_more (s : State) (i : Nat) (f : HoleLive → HoleLive) : (s.modHoleLive i f).plate.more = s.plate.more := rfl
@[simp] theorem modHoleLive_plate_entryTol (s : State) (i : Nat) (f : HoleLive → HoleLive) : (s.modHoleLive i f).plate.entryTol = s.plate.entryTol := rfl
@[simp] theorem modHoleLive_plate_validation (s : State) (i : Nat) (f : HoleLive → HoleLive) : (s.modHoleLive i f).plate.validation = s.plate.validation := rfl
@[simp] theorem modContour_plate_holes (s : State) (i : Nat) (f : Contour → Contour) : (s.modContour i f).plate.holes = s.plate.holes := rfl
@[simp] theorem modLive_plate_holes (s : State) (i : Nat) (f : ContourLive → ContourLive) : (s.modLive i f).plate.holes = s.plate.holes := rfl
@[simp] theorem modHole_plate_contours (s : State) (i : Nat) (f : Hole → Hole) : (s.modHole i f).plate.contours = s.plate.contours := rfl
@[simp] theorem modHoleLive_plate_contours (s : State) (i : Nat) (f : HoleLive → HoleLive) : (s.modHoleLive i f).plate.contours = s.plate.contours := rfl

/-! ### Posting and outputs -/

@[simp] theorem post_resetLow (e : Event) (s : State) : (post e s).resetLow = s.resetLow := rfl
@[simp] theorem post_device (e : Event) (s : State) : (post e s).device = s.device := rfl
@[simp] theorem post_selfTest (e : Event) (s : State) : (post e s).selfTest = s.selfTest := rfl
@[simp] theorem post_selfTestLeft (e : Event) (s : State) : (post e s).selfTestLeft = s.selfTestLeft := rfl
@[simp] theorem post_cfg (e : Event) (s : State) : (post e s).cfg = s.cfg := rfl
@[simp] theorem post_axisX (e : Event) (s : State) : (post e s).axisX = s.axisX := rfl
@[simp] theorem post_axisY (e : Event) (s : State) : (post e s).axisY = s.axisY := rfl
@[simp] theorem post_plate (e : Event) (s : State) : (post e s).plate = s.plate := rfl
@[simp] theorem post_prog (e : Event) (s : State) : (post e s).prog = s.prog := rfl
@[simp] theorem post_sampling (e : Event) (s : State) : (post e s).sampling = s.sampling := rfl
@[simp] theorem post_run (e : Event) (s : State) : (post e s).run = s.run := rfl
@[simp] theorem post_lastRun (e : Event) (s : State) : (post e s).lastRun = s.lastRun := rfl
@[simp] theorem post_runCounter (e : Event) (s : State) : (post e s).runCounter = s.runCounter := rfl
@[simp] theorem post_gap (e : Event) (s : State) : (post e s).gap = s.gap := rfl
@[simp] theorem post_planner (e : Event) (s : State) : (post e s).planner = s.planner := rfl
@[simp] theorem post_catchSet (e : Event) (s : State) : (post e s).catchSet = s.catchSet := rfl
@[simp] theorem post_sparkOk (e : Event) (s : State) : (post e s).sparkOk = s.sparkOk := rfl
@[simp] theorem post_threadOk (e : Event) (s : State) : (post e s).threadOk = s.threadOk := rfl
@[simp] theorem post_holdIn (e : Event) (s : State) : (post e s).holdIn = s.holdIn := rfl
@[simp] theorem post_shortIn (e : Event) (s : State) : (post e s).shortIn = s.shortIn := rfl
@[simp] theorem post_trace (e : Event) (s : State) : (post e s).trace = s.trace := rfl
@[simp] theorem post_freeCount (e : Event) (s : State) : (post e s).freeCount = s.freeCount := rfl
@[simp] theorem post_pending (e : Event) (s : State) : (post e s).pending = s.pending := rfl
@[simp] theorem post_link (e : Event) (s : State) (l : Link) : (post e s).link l = (s.link l).posted l e := by cases l <;> rfl
@[simp] theorem drivePermits_resetLow (s : State) : (drivePermits s).resetLow = s.resetLow := rfl
@[simp] theorem drivePermits_device (s : State) : (drivePermits s).device = s.device := rfl
@[simp] theorem drivePermits_selfTest (s : State) : (drivePermits s).selfTest = s.selfTest := rfl
@[simp] theorem drivePermits_selfTestLeft (s : State) : (drivePermits s).selfTestLeft = s.selfTestLeft := rfl
@[simp] theorem drivePermits_cfg (s : State) : (drivePermits s).cfg = s.cfg := rfl
@[simp] theorem drivePermits_axisX (s : State) : (drivePermits s).axisX = s.axisX := rfl
@[simp] theorem drivePermits_axisY (s : State) : (drivePermits s).axisY = s.axisY := rfl
@[simp] theorem drivePermits_plate (s : State) : (drivePermits s).plate = s.plate := rfl
@[simp] theorem drivePermits_prog (s : State) : (drivePermits s).prog = s.prog := rfl
@[simp] theorem drivePermits_sampling (s : State) : (drivePermits s).sampling = s.sampling := rfl
@[simp] theorem drivePermits_run (s : State) : (drivePermits s).run = s.run := rfl
@[simp] theorem drivePermits_lastRun (s : State) : (drivePermits s).lastRun = s.lastRun := rfl
@[simp] theorem drivePermits_runCounter (s : State) : (drivePermits s).runCounter = s.runCounter := rfl
@[simp] theorem drivePermits_planner (s : State) : (drivePermits s).planner = s.planner := rfl
@[simp] theorem drivePermits_catchSet (s : State) : (drivePermits s).catchSet = s.catchSet := rfl
@[simp] theorem drivePermits_holdIn (s : State) : (drivePermits s).holdIn = s.holdIn := rfl
@[simp] theorem drivePermits_shortIn (s : State) : (drivePermits s).shortIn = s.shortIn := rfl
@[simp] theorem drivePermits_motion (s : State) : (drivePermits s).motion = s.motion := rfl
@[simp] theorem drivePermits_thread (s : State) : (drivePermits s).thread = s.thread := rfl
@[simp] theorem drivePermits_cell (s : State) : (drivePermits s).cell = s.cell := rfl
@[simp] theorem drivePermits_trace (s : State) : (drivePermits s).trace = s.trace := rfl
@[simp] theorem drivePermits_freeCount (s : State) : (drivePermits s).freeCount = s.freeCount := rfl
@[simp] theorem drivePermits_pending (s : State) : (drivePermits s).pending = s.pending := rfl
@[simp] theorem drivePermits_sparkOk (s : State) : (drivePermits s).sparkOk = s.sparkCond := rfl
@[simp] theorem drivePermits_threadOk (s : State) : (drivePermits s).threadOk = s.threadCond s.sparkCond := rfl
@[simp] theorem driveAttn_resetLow (s : State) : (driveAttn s).resetLow = s.resetLow := rfl
@[simp] theorem driveAttn_device (s : State) : (driveAttn s).device = s.device := rfl
@[simp] theorem driveAttn_selfTest (s : State) : (driveAttn s).selfTest = s.selfTest := rfl
@[simp] theorem driveAttn_selfTestLeft (s : State) : (driveAttn s).selfTestLeft = s.selfTestLeft := rfl
@[simp] theorem driveAttn_cfg (s : State) : (driveAttn s).cfg = s.cfg := rfl
@[simp] theorem driveAttn_axisX (s : State) : (driveAttn s).axisX = s.axisX := rfl
@[simp] theorem driveAttn_axisY (s : State) : (driveAttn s).axisY = s.axisY := rfl
@[simp] theorem driveAttn_plate (s : State) : (driveAttn s).plate = s.plate := rfl
@[simp] theorem driveAttn_prog (s : State) : (driveAttn s).prog = s.prog := rfl
@[simp] theorem driveAttn_sampling (s : State) : (driveAttn s).sampling = s.sampling := rfl
@[simp] theorem driveAttn_run (s : State) : (driveAttn s).run = s.run := rfl
@[simp] theorem driveAttn_lastRun (s : State) : (driveAttn s).lastRun = s.lastRun := rfl
@[simp] theorem driveAttn_runCounter (s : State) : (driveAttn s).runCounter = s.runCounter := rfl
@[simp] theorem driveAttn_gap (s : State) : (driveAttn s).gap = s.gap := rfl
@[simp] theorem driveAttn_planner (s : State) : (driveAttn s).planner = s.planner := rfl
@[simp] theorem driveAttn_catchSet (s : State) : (driveAttn s).catchSet = s.catchSet := rfl
@[simp] theorem driveAttn_sparkOk (s : State) : (driveAttn s).sparkOk = s.sparkOk := rfl
@[simp] theorem driveAttn_threadOk (s : State) : (driveAttn s).threadOk = s.threadOk := rfl
@[simp] theorem driveAttn_holdIn (s : State) : (driveAttn s).holdIn = s.holdIn := rfl
@[simp] theorem driveAttn_shortIn (s : State) : (driveAttn s).shortIn = s.shortIn := rfl
@[simp] theorem driveAttn_trace (s : State) : (driveAttn s).trace = s.trace := rfl
@[simp] theorem driveAttn_freeCount (s : State) : (driveAttn s).freeCount = s.freeCount := rfl
@[simp] theorem driveAttn_pending (s : State) : (driveAttn s).pending = s.pending := rfl
@[simp] theorem driveAttn_link (s : State) (l : Link) : (driveAttn s).link l = { s.link l with attn := (s.link l).attnLevel } := by cases l <;> rfl
@[simp] theorem drive_resetLow (s : State) : (drive s).resetLow = s.resetLow := rfl
@[simp] theorem drive_device (s : State) : (drive s).device = s.device := rfl
@[simp] theorem drive_selfTest (s : State) : (drive s).selfTest = s.selfTest := rfl
@[simp] theorem drive_selfTestLeft (s : State) : (drive s).selfTestLeft = s.selfTestLeft := rfl
@[simp] theorem drive_cfg (s : State) : (drive s).cfg = s.cfg := rfl
@[simp] theorem drive_axisX (s : State) : (drive s).axisX = s.axisX := rfl
@[simp] theorem drive_axisY (s : State) : (drive s).axisY = s.axisY := rfl
@[simp] theorem drive_plate (s : State) : (drive s).plate = s.plate := rfl
@[simp] theorem drive_prog (s : State) : (drive s).prog = s.prog := rfl
@[simp] theorem drive_sampling (s : State) : (drive s).sampling = s.sampling := rfl
@[simp] theorem drive_run (s : State) : (drive s).run = s.run := rfl
@[simp] theorem drive_lastRun (s : State) : (drive s).lastRun = s.lastRun := rfl
@[simp] theorem drive_runCounter (s : State) : (drive s).runCounter = s.runCounter := rfl
@[simp] theorem drive_planner (s : State) : (drive s).planner = s.planner := rfl
@[simp] theorem drive_catchSet (s : State) : (drive s).catchSet = s.catchSet := rfl
@[simp] theorem drive_holdIn (s : State) : (drive s).holdIn = s.holdIn := rfl
@[simp] theorem drive_shortIn (s : State) : (drive s).shortIn = s.shortIn := rfl
@[simp] theorem drive_trace (s : State) : (drive s).trace = s.trace := rfl
@[simp] theorem drive_freeCount (s : State) : (drive s).freeCount = s.freeCount := rfl
@[simp] theorem drive_pending (s : State) : (drive s).pending = s.pending := rfl
@[simp] theorem drive_sparkOk (s : State) : (drive s).sparkOk = s.sparkCond := rfl
@[simp] theorem drive_threadOk (s : State) : (drive s).threadOk = s.threadCond s.sparkCond := rfl
@[simp] theorem drive_link (s : State) (l : Link) : (drive s).link l = { s.link l with attn := (s.link l).attnLevel } := by cases l <;> rfl

/-! ### Requests, free values, queue -/

@[simp] theorem answerWith_resetLow (l : Link) (r k t : Byte) (b : List Byte) (s : State) : (answerWith l r k t b s).resetLow = s.resetLow := by cases l <;> rfl
@[simp] theorem answerWith_device (l : Link) (r k t : Byte) (b : List Byte) (s : State) : (answerWith l r k t b s).device = s.device := by cases l <;> rfl
@[simp] theorem answerWith_selfTest (l : Link) (r k t : Byte) (b : List Byte) (s : State) : (answerWith l r k t b s).selfTest = s.selfTest := by cases l <;> rfl
@[simp] theorem answerWith_selfTestLeft (l : Link) (r k t : Byte) (b : List Byte) (s : State) : (answerWith l r k t b s).selfTestLeft = s.selfTestLeft := by cases l <;> rfl
@[simp] theorem answerWith_cfg (l : Link) (r k t : Byte) (b : List Byte) (s : State) : (answerWith l r k t b s).cfg = s.cfg := by cases l <;> rfl
@[simp] theorem answerWith_axisX (l : Link) (r k t : Byte) (b : List Byte) (s : State) : (answerWith l r k t b s).axisX = s.axisX := by cases l <;> rfl
@[simp] theorem answerWith_axisY (l : Link) (r k t : Byte) (b : List Byte) (s : State) : (answerWith l r k t b s).axisY = s.axisY := by cases l <;> rfl
@[simp] theorem answerWith_plate (l : Link) (r k t : Byte) (b : List Byte) (s : State) : (answerWith l r k t b s).plate = s.plate := by cases l <;> rfl
@[simp] theorem answerWith_prog (l : Link) (r k t : Byte) (b : List Byte) (s : State) : (answerWith l r k t b s).prog = s.prog := by cases l <;> rfl
@[simp] theorem answerWith_sampling (l : Link) (r k t : Byte) (b : List Byte) (s : State) : (answerWith l r k t b s).sampling = s.sampling := by cases l <;> rfl
@[simp] theorem answerWith_run (l : Link) (r k t : Byte) (b : List Byte) (s : State) : (answerWith l r k t b s).run = s.run := by cases l <;> rfl
@[simp] theorem answerWith_lastRun (l : Link) (r k t : Byte) (b : List Byte) (s : State) : (answerWith l r k t b s).lastRun = s.lastRun := by cases l <;> rfl
@[simp] theorem answerWith_runCounter (l : Link) (r k t : Byte) (b : List Byte) (s : State) : (answerWith l r k t b s).runCounter = s.runCounter := by cases l <;> rfl
@[simp] theorem answerWith_gap (l : Link) (r k t : Byte) (b : List Byte) (s : State) : (answerWith l r k t b s).gap = s.gap := by cases l <;> rfl
@[simp] theorem answerWith_planner (l : Link) (r k t : Byte) (b : List Byte) (s : State) : (answerWith l r k t b s).planner = s.planner := by cases l <;> rfl
@[simp] theorem answerWith_catchSet (l : Link) (r k t : Byte) (b : List Byte) (s : State) : (answerWith l r k t b s).catchSet = s.catchSet := by cases l <;> rfl
@[simp] theorem answerWith_sparkOk (l : Link) (r k t : Byte) (b : List Byte) (s : State) : (answerWith l r k t b s).sparkOk = s.sparkOk := by cases l <;> rfl
@[simp] theorem answerWith_threadOk (l : Link) (r k t : Byte) (b : List Byte) (s : State) : (answerWith l r k t b s).threadOk = s.threadOk := by cases l <;> rfl
@[simp] theorem answerWith_holdIn (l : Link) (r k t : Byte) (b : List Byte) (s : State) : (answerWith l r k t b s).holdIn = s.holdIn := by cases l <;> rfl
@[simp] theorem answerWith_shortIn (l : Link) (r k t : Byte) (b : List Byte) (s : State) : (answerWith l r k t b s).shortIn = s.shortIn := by cases l <;> rfl
@[simp] theorem answerWith_trace (l : Link) (r k t : Byte) (b : List Byte) (s : State) : (answerWith l r k t b s).trace = s.trace := by cases l <;> rfl
@[simp] theorem answerWith_freeCount (l : Link) (r k t : Byte) (b : List Byte) (s : State) : (answerWith l r k t b s).freeCount = s.freeCount := by cases l <;> rfl
@[simp] theorem answerWith_pending (l : Link) (r k t : Byte) (b : List Byte) (s : State) : (answerWith l r k t b s).pending = s.pending := by cases l <;> rfl
@[simp] theorem recordError_resetLow (l : Link) (c : LinkErr) (k t : Option Byte) (s : State) : (recordError l c k t s).resetLow = s.resetLow := by cases l <;> rfl
@[simp] theorem recordError_device (l : Link) (c : LinkErr) (k t : Option Byte) (s : State) : (recordError l c k t s).device = s.device := by cases l <;> rfl
@[simp] theorem recordError_selfTest (l : Link) (c : LinkErr) (k t : Option Byte) (s : State) : (recordError l c k t s).selfTest = s.selfTest := by cases l <;> rfl
@[simp] theorem recordError_selfTestLeft (l : Link) (c : LinkErr) (k t : Option Byte) (s : State) : (recordError l c k t s).selfTestLeft = s.selfTestLeft := by cases l <;> rfl
@[simp] theorem recordError_cfg (l : Link) (c : LinkErr) (k t : Option Byte) (s : State) : (recordError l c k t s).cfg = s.cfg := by cases l <;> rfl
@[simp] theorem recordError_axisX (l : Link) (c : LinkErr) (k t : Option Byte) (s : State) : (recordError l c k t s).axisX = s.axisX := by cases l <;> rfl
@[simp] theorem recordError_axisY (l : Link) (c : LinkErr) (k t : Option Byte) (s : State) : (recordError l c k t s).axisY = s.axisY := by cases l <;> rfl
@[simp] theorem recordError_plate (l : Link) (c : LinkErr) (k t : Option Byte) (s : State) : (recordError l c k t s).plate = s.plate := by cases l <;> rfl
@[simp] theorem recordError_prog (l : Link) (c : LinkErr) (k t : Option Byte) (s : State) : (recordError l c k t s).prog = s.prog := by cases l <;> rfl
@[simp] theorem recordError_sampling (l : Link) (c : LinkErr) (k t : Option Byte) (s : State) : (recordError l c k t s).sampling = s.sampling := by cases l <;> rfl
@[simp] theorem recordError_run (l : Link) (c : LinkErr) (k t : Option Byte) (s : State) : (recordError l c k t s).run = s.run := by cases l <;> rfl
@[simp] theorem recordError_lastRun (l : Link) (c : LinkErr) (k t : Option Byte) (s : State) : (recordError l c k t s).lastRun = s.lastRun := by cases l <;> rfl
@[simp] theorem recordError_runCounter (l : Link) (c : LinkErr) (k t : Option Byte) (s : State) : (recordError l c k t s).runCounter = s.runCounter := by cases l <;> rfl
@[simp] theorem recordError_gap (l : Link) (c : LinkErr) (k t : Option Byte) (s : State) : (recordError l c k t s).gap = s.gap := by cases l <;> rfl
@[simp] theorem recordError_planner (l : Link) (c : LinkErr) (k t : Option Byte) (s : State) : (recordError l c k t s).planner = s.planner := by cases l <;> rfl
@[simp] theorem recordError_catchSet (l : Link) (c : LinkErr) (k t : Option Byte) (s : State) : (recordError l c k t s).catchSet = s.catchSet := by cases l <;> rfl
@[simp] theorem recordError_sparkOk (l : Link) (c : LinkErr) (k t : Option Byte) (s : State) : (recordError l c k t s).sparkOk = s.sparkOk := by cases l <;> rfl
@[simp] theorem recordError_threadOk (l : Link) (c : LinkErr) (k t : Option Byte) (s : State) : (recordError l c k t s).threadOk = s.threadOk := by cases l <;> rfl
@[simp] theorem recordError_holdIn (l : Link) (c : LinkErr) (k t : Option Byte) (s : State) : (recordError l c k t s).holdIn = s.holdIn := by cases l <;> rfl
@[simp] theorem recordError_shortIn (l : Link) (c : LinkErr) (k t : Option Byte) (s : State) : (recordError l c k t s).shortIn = s.shortIn := by cases l <;> rfl
@[simp] theorem recordError_trace (l : Link) (c : LinkErr) (k t : Option Byte) (s : State) : (recordError l c k t s).trace = s.trace := by cases l <;> rfl
@[simp] theorem recordError_freeCount (l : Link) (c : LinkErr) (k t : Option Byte) (s : State) : (recordError l c k t s).freeCount = s.freeCount := by cases l <;> rfl
@[simp] theorem recordError_pending (l : Link) (c : LinkErr) (k t : Option Byte) (s : State) : (recordError l c k t s).pending = s.pending := by cases l <;> rfl
@[simp] theorem enqueue_resetLow (c : Instr) (s : State) : (enqueue c s).resetLow = s.resetLow := rfl
@[simp] theorem enqueue_device (c : Instr) (s : State) : (enqueue c s).device = s.device := rfl
@[simp] theorem enqueue_selfTest (c : Instr) (s : State) : (enqueue c s).selfTest = s.selfTest := rfl
@[simp] theorem enqueue_selfTestLeft (c : Instr) (s : State) : (enqueue c s).selfTestLeft = s.selfTestLeft := rfl
@[simp] theorem enqueue_cfg (c : Instr) (s : State) : (enqueue c s).cfg = s.cfg := rfl
@[simp] theorem enqueue_axisX (c : Instr) (s : State) : (enqueue c s).axisX = s.axisX := rfl
@[simp] theorem enqueue_axisY (c : Instr) (s : State) : (enqueue c s).axisY = s.axisY := rfl
@[simp] theorem enqueue_plate (c : Instr) (s : State) : (enqueue c s).plate = s.plate := rfl
@[simp] theorem enqueue_prog (c : Instr) (s : State) : (enqueue c s).prog = s.prog := rfl
@[simp] theorem enqueue_sampling (c : Instr) (s : State) : (enqueue c s).sampling = s.sampling := rfl
@[simp] theorem enqueue_run (c : Instr) (s : State) : (enqueue c s).run = s.run := rfl
@[simp] theorem enqueue_lastRun (c : Instr) (s : State) : (enqueue c s).lastRun = s.lastRun := rfl
@[simp] theorem enqueue_runCounter (c : Instr) (s : State) : (enqueue c s).runCounter = s.runCounter := rfl
@[simp] theorem enqueue_gap (c : Instr) (s : State) : (enqueue c s).gap = s.gap := rfl
@[simp] theorem enqueue_planner (c : Instr) (s : State) : (enqueue c s).planner = s.planner := rfl
@[simp] theorem enqueue_catchSet (c : Instr) (s : State) : (enqueue c s).catchSet = s.catchSet := rfl
@[simp] theorem enqueue_sparkOk (c : Instr) (s : State) : (enqueue c s).sparkOk = s.sparkOk := rfl
@[simp] theorem enqueue_threadOk (c : Instr) (s : State) : (enqueue c s).threadOk = s.threadOk := rfl
@[simp] theorem enqueue_holdIn (c : Instr) (s : State) : (enqueue c s).holdIn = s.holdIn := rfl
@[simp] theorem enqueue_shortIn (c : Instr) (s : State) : (enqueue c s).shortIn = s.shortIn := rfl
@[simp] theorem enqueue_motion (c : Instr) (s : State) : (enqueue c s).motion = s.motion := rfl
@[simp] theorem enqueue_thread (c : Instr) (s : State) : (enqueue c s).thread = s.thread := rfl
@[simp] theorem enqueue_cell (c : Instr) (s : State) : (enqueue c s).cell = s.cell := rfl
@[simp] theorem enqueue_trace (c : Instr) (s : State) : (enqueue c s).trace = s.trace := rfl
@[simp] theorem enqueue_freeCount (c : Instr) (s : State) : (enqueue c s).freeCount = s.freeCount := rfl
@[simp] theorem enqueue_pending (c : Instr) (s : State) : (enqueue c s).pending = s.pending ++ [c] := rfl
@[simp] theorem takeFree_resetLow (s : State) : ((takeFree s).2).resetLow = s.resetLow := rfl
@[simp] theorem takeFree_device (s : State) : ((takeFree s).2).device = s.device := rfl
@[simp] theorem takeFree_selfTest (s : State) : ((takeFree s).2).selfTest = s.selfTest := rfl
@[simp] theorem takeFree_selfTestLeft (s : State) : ((takeFree s).2).selfTestLeft = s.selfTestLeft := rfl
@[simp] theorem takeFree_cfg (s : State) : ((takeFree s).2).cfg = s.cfg := rfl
@[simp] theorem takeFree_axisX (s : State) : ((takeFree s).2).axisX = s.axisX := rfl
@[simp] theorem takeFree_axisY (s : State) : ((takeFree s).2).axisY = s.axisY := rfl
@[simp] theorem takeFree_plate (s : State) : ((takeFree s).2).plate = s.plate := rfl
@[simp] theorem takeFree_prog (s : State) : ((takeFree s).2).prog = s.prog := rfl
@[simp] theorem takeFree_sampling (s : State) : ((takeFree s).2).sampling = s.sampling := rfl
@[simp] theorem takeFree_run (s : State) : ((takeFree s).2).run = s.run := rfl
@[simp] theorem takeFree_lastRun (s : State) : ((takeFree s).2).lastRun = s.lastRun := rfl
@[simp] theorem takeFree_runCounter (s : State) : ((takeFree s).2).runCounter = s.runCounter := rfl
@[simp] theorem takeFree_gap (s : State) : ((takeFree s).2).gap = s.gap := rfl
@[simp] theorem takeFree_planner (s : State) : ((takeFree s).2).planner = s.planner := rfl
@[simp] theorem takeFree_catchSet (s : State) : ((takeFree s).2).catchSet = s.catchSet := rfl
@[simp] theorem takeFree_sparkOk (s : State) : ((takeFree s).2).sparkOk = s.sparkOk := rfl
@[simp] theorem takeFree_threadOk (s : State) : ((takeFree s).2).threadOk = s.threadOk := rfl
@[simp] theorem takeFree_holdIn (s : State) : ((takeFree s).2).holdIn = s.holdIn := rfl
@[simp] theorem takeFree_shortIn (s : State) : ((takeFree s).2).shortIn = s.shortIn := rfl
@[simp] theorem takeFree_motion (s : State) : ((takeFree s).2).motion = s.motion := rfl
@[simp] theorem takeFree_thread (s : State) : ((takeFree s).2).thread = s.thread := rfl
@[simp] theorem takeFree_cell (s : State) : ((takeFree s).2).cell = s.cell := rfl
@[simp] theorem takeFree_trace (s : State) : ((takeFree s).2).trace = s.trace := rfl
@[simp] theorem takeFree_pending (s : State) : ((takeFree s).2).pending = s.pending := rfl

end Sys2Proof.Machine
end

