-- ==== Sys2Proof/Laws/Events.lean ====
section
/-! SUPPORT. What a posting does to a link, once for all events. -/

namespace Sys2Proof.Machine

/-- Every kind but CONTOUR_STATE replaces what the link held. -/
theorem mergeDetail_replaces (old : Option Event) (e : Event) (h : e.bit ≠ 7) : mergeDetail old e = e := by
  unfold mergeDetail
  split
  · exact absurd rfl h
  · rfl

/-- A posted event of a routed kind stands with its detail. -/
theorem get?_posted_same (k : LinkState) (l : Link) (e : Event) (hr : (routed l).getLsbD e.bit = true)
    (h : e.bit ≠ 7) : Table.get? (k.posted l e).raw e.bit = some e := by
  simp only [LinkState.posted, hasBit, hr, if_true]
  rw [Table.get?_set_same, mergeDetail_replaces _ _ h]

/-- A posting leaves the other kinds. -/
theorem get?_posted_other (k : LinkState) (l : Link) (e : Event) (b : Nat) (h : b ≠ e.bit) :
    Table.get? (k.posted l e).raw b = Table.get? k.raw b := by
  unfold LinkState.posted
  split
  · exact Table.get?_set_other _ _ _ _ h
  · rfl

/-- A kind that is not routed to a link leaves it alone. -/
theorem posted_unrouted (k : LinkState) (l : Link) (e : Event) (hr : (routed l).getLsbD e.bit = false) :
    k.posted l e = k := by
  simp [LinkState.posted, hasBit, hr]

@[simp] theorem posted_rx (k : LinkState) (l : Link) (e : Event) : (k.posted l e).rx = k.rx := by
  unfold LinkState.posted; split <;> rfl

@[simp] theorem posted_part (k : LinkState) (l : Link) (e : Event) : (k.posted l e).part = k.part := by
  unfold LinkState.posted; split <;> rfl

@[simp] theorem posted_line (k : LinkState) (l : Link) (e : Event) : (k.posted l e).line = k.line := by
  unfold LinkState.posted; split <;> rfl

@[simp] theorem posted_busy (k : LinkState) (l : Link) (e : Event) : (k.posted l e).busy = k.busy := by
  unfold LinkState.posted; split <;> rfl

@[simp] theorem posted_errors (k : LinkState) (l : Link) (e : Event) : (k.posted l e).errors = k.errors := by
  unfold LinkState.posted; split <;> rfl

@[simp] theorem posted_mask (k : LinkState) (l : Link) (e : Event) : (k.posted l e).mask = k.mask := by
  unfold LinkState.posted; split <;> rfl

@[simp] theorem posted_attn (k : LinkState) (l : Link) (e : Event) : (k.posted l e).attn = k.attn := by
  unfold LinkState.posted; split <;> rfl

/-- Driving the outputs keeps a link's pending events. -/
@[simp] theorem drive_raw (s : State) (l : Link) : ((drive s).link l).raw = (s.link l).raw := by
  rw [drive_link]

/-- Driving the outputs keeps a link's request in progress. -/
@[simp] theorem drive_busy (s : State) (l : Link) : ((drive s).link l).busy = (s.link l).busy := by
  rw [drive_link]

end Sys2Proof.Machine
end

