-- ==== Sys2Proof/Laws/Run.lean ====
section
/-! SUPPORT. What the shared operations of the Retention Unit, the Run Controller and the Rethread Planner leave alone:
one lemma per field. -/

namespace Sys2Proof.Machine

/-! ### Retention and coverage -/

@[simp] theorem changeRetention_resetLow (i : Nat) (r : RState) (s : State) : (changeRetention i r s).resetLow = s.resetLow := by unfold changeRetention; split <;> rfl
@[simp] theorem changeRetention_device (i : Nat) (r : RState) (s : State) : (changeRetention i r s).device = s.device := by unfold changeRetention; split <;> rfl
@[simp] theorem changeRetention_selfTest (i : Nat) (r : RState) (s : State) : (changeRetention i r s).selfTest = s.selfTest := by unfold changeRetention; split <;> rfl
@[simp] theorem changeRetention_selfTestLeft (i : Nat) (r : RState) (s : State) : (changeRetention i r s).selfTestLeft = s.selfTestLeft := by unfold changeRetention; split <;> rfl
@[simp] theorem changeRetention_cfg (i : Nat) (r : RState) (s : State) : (changeRetention i r s).cfg = s.cfg := by unfold changeRetention; split <;> rfl
@[simp] theorem changeRetention_axisX (i : Nat) (r : RState) (s : State) : (changeRetention i r s).axisX = s.axisX := by unfold changeRetention; split <;> rfl
@[simp] theorem changeRetention_axisY (i : Nat) (r : RState) (s : State) : (changeRetention i r s).axisY = s.axisY := by unfold changeRetention; split <;> rfl
@[simp] theorem changeRetention_prog (i : Nat) (r : RState) (s : State) : (changeRetention i r s).prog = s.prog := by unfold changeRetention; split <;> rfl
@[simp] theorem changeRetention_sampling (i : Nat) (r : RState) (s : State) : (changeRetention i r s).sampling = s.sampling := by unfold changeRetention; split <;> rfl
@[simp] theorem changeRetention_run (i : Nat) (r : RState) (s : State) : (changeRetention i r s).run = s.run := by unfold changeRetention; split <;> rfl
@[simp] theorem changeRetention_lastRun (i : Nat) (r : RState) (s : State) : (changeRetention i r s).lastRun = s.lastRun := by unfold changeRetention; split <;> rfl
@[simp] theorem changeRetention_runCounter (i : Nat) (r : RState) (s : State) : (changeRetention i r s).runCounter = s.runCounter := by unfold changeRetention; split <;> rfl
@[simp] theorem changeRetention_gap (i : Nat) (r : RState) (s : State) : (changeRetention i r s).gap = s.gap := by unfold changeRetention; split <;> rfl
@[simp] theorem changeRetention_planner (i : Nat) (r : RState) (s : State) : (changeRetention i r s).planner = s.planner := by unfold changeRetention; split <;> rfl
@[simp] theorem changeRetention_catchSet (i : Nat) (r : RState) (s : State) : (changeRetention i r s).catchSet = s.catchSet := by unfold changeRetention; split <;> rfl
@[simp] theorem changeRetention_sparkOk (i : Nat) (r : RState) (s : State) : (changeRetention i r s).sparkOk = s.sparkOk := by unfold changeRetention; split <;> rfl
@[simp] theorem changeRetention_threadOk (i : Nat) (r : RState) (s : State) : (changeRetention i r s).threadOk = s.threadOk := by unfold changeRetention; split <;> rfl
@[simp] theorem changeRetention_holdIn (i : Nat) (r : RState) (s : State) : (changeRetention i r s).holdIn = s.holdIn := by unfold changeRetention; split <;> rfl
@[simp] theorem changeRetention_shortIn (i : Nat) (r : RState) (s : State) : (changeRetention i r s).shortIn = s.shortIn := by unfold changeRetention; split <;> rfl
@[simp] theorem changeRetention_trace (i : Nat) (r : RState) (s : State) : (changeRetention i r s).trace = s.trace := by unfold changeRetention; split <;> rfl
@[simp] theorem changeRetention_freeCount (i : Nat) (r : RState) (s : State) : (changeRetention i r s).freeCount = s.freeCount := by unfold changeRetention; split <;> rfl
@[simp] theorem changeRetention_pending (i : Nat) (r : RState) (s : State) : (changeRetention i r s).pending = s.pending := by unfold changeRetention; split <;> rfl
@[simp] theorem evaluate_resetLow (i : Nat) (s : State) : (evaluate i s).resetLow = s.resetLow := by simp only [evaluate]; (repeat' split) <;> first | rfl | simp
@[simp] theorem evaluate_device (i : Nat) (s : State) : (evaluate i s).device = s.device := by simp only [evaluate]; (repeat' split) <;> first | rfl | simp
@[simp] theorem evaluate_selfTest (i : Nat) (s : State) : (evaluate i s).selfTest = s.selfTest := by simp only [evaluate]; (repeat' split) <;> first | rfl | simp
@[simp] theorem evaluate_selfTestLeft (i : Nat) (s : State) : (evaluate i s).selfTestLeft = s.selfTestLeft := by simp only [evaluate]; (repeat' split) <;> first | rfl | simp
@[simp] theorem evaluate_cfg (i : Nat) (s : State) : (evaluate i s).cfg = s.cfg := by simp only [evaluate]; (repeat' split) <;> first | rfl | simp
@[simp] theorem evaluate_axisX (i : Nat) (s : State) : (evaluate i s).axisX = s.axisX := by simp only [evaluate]; (repeat' split) <;> first | rfl | simp
@[simp] theorem evaluate_axisY (i : Nat) (s : State) : (evaluate i s).axisY = s.axisY := by simp only [evaluate]; (repeat' split) <;> first | rfl | simp
@[simp] theorem evaluate_prog (i : Nat) (s : State) : (evaluate i s).prog = s.prog := by simp only [evaluate]; (repeat' split) <;> first | rfl | simp
@[simp] theorem evaluate_sampling (i : Nat) (s : State) : (evaluate i s).sampling = s.sampling := by simp only [evaluate]; (repeat' split) <;> first | rfl | simp
@[simp] theorem evaluate_run (i : Nat) (s : State) : (evaluate i s).run = s.run := by simp only [evaluate]; (repeat' split) <;> first | rfl | simp
@[simp] theorem evaluate_lastRun (i : Nat) (s : State) : (evaluate i s).lastRun = s.lastRun := by simp only [evaluate]; (repeat' split) <;> first | rfl | simp
@[simp] theorem evaluate_runCounter (i : Nat) (s : State) : (evaluate i s).runCounter = s.runCounter := by simp only [evaluate]; (repeat' split) <;> first | rfl | simp
@[simp] theorem evaluate_gap (i : Nat) (s : State) : (evaluate i s).gap = s.gap := by simp only [evaluate]; (repeat' split) <;> first | rfl | simp
@[simp] theorem evaluate_planner (i : Nat) (s : State) : (evaluate i s).planner = s.planner := by simp only [evaluate]; (repeat' split) <;> first | rfl | simp
@[simp] theorem evaluate_catchSet (i : Nat) (s : State) : (evaluate i s).catchSet = s.catchSet := by simp only [evaluate]; (repeat' split) <;> first | rfl | simp
@[simp] theorem evaluate_sparkOk (i : Nat) (s : State) : (evaluate i s).sparkOk = s.sparkOk := by simp only [evaluate]; (repeat' split) <;> first | rfl | simp
@[simp] theorem evaluate_threadOk (i : Nat) (s : State) : (evaluate i s).threadOk = s.threadOk := by simp only [evaluate]; (repeat' split) <;> first | rfl | simp
@[simp] theorem evaluate_holdIn (i : Nat) (s : State) : (evaluate i s).holdIn = s.holdIn := by simp only [evaluate]; (repeat' split) <;> first | rfl | simp
@[simp] theorem evaluate_shortIn (i : Nat) (s : State) : (evaluate i s).shortIn = s.shortIn := by simp only [evaluate]; (repeat' split) <;> first | rfl | simp
@[simp] theorem evaluate_trace (i : Nat) (s : State) : (evaluate i s).trace = s.trace := by simp only [evaluate]; (repeat' split) <;> first | rfl | simp
@[simp] theorem evaluate_freeCount (i : Nat) (s : State) : (evaluate i s).freeCount = s.freeCount := by simp only [evaluate]; (repeat' split) <;> first | rfl | simp
@[simp] theorem evaluate_pending (i : Nat) (s : State) : (evaluate i s).pending = s.pending := by simp only [evaluate]; (repeat' split) <;> first | rfl | simp
@[simp] theorem mergeCredit_resetLow (r : Run) (a b : Nat) (s : State) : (mergeCredit r a b s).resetLow = s.resetLow := by simp only [mergeCredit]; (repeat' split) <;> first | rfl | simp
@[simp] theorem mergeCredit_device (r : Run) (a b : Nat) (s : State) : (mergeCredit r a b s).device = s.device := by simp only [mergeCredit]; (repeat' split) <;> first | rfl | simp
@[simp] theorem mergeCredit_selfTest (r : Run) (a b : Nat) (s : State) : (mergeCredit r a b s).selfTest = s.selfTest := by simp only [mergeCredit]; (repeat' split) <;> first | rfl | simp
@[simp] theorem mergeCredit_selfTestLeft (r : Run) (a b : Nat) (s : State) : (mergeCredit r a b s).selfTestLeft = s.selfTestLeft := by simp only [mergeCredit]; (repeat' split) <;> first | rfl | simp
@[simp] theorem mergeCredit_cfg (r : Run) (a b : Nat) (s : State) : (mergeCredit r a b s).cfg = s.cfg := by simp only [mergeCredit]; (repeat' split) <;> first | rfl | simp
@[simp] theorem mergeCredit_axisX (r : Run) (a b : Nat) (s : State) : (mergeCredit r a b s).axisX = s.axisX := by simp only [mergeCredit]; (repeat' split) <;> first | rfl | simp
@[simp] theorem mergeCredit_axisY (r : Run) (a b : Nat) (s : State) : (mergeCredit r a b s).axisY = s.axisY := by simp only [mergeCredit]; (repeat' split) <;> first | rfl | simp
@[simp] theorem mergeCredit_prog (r : Run) (a b : Nat) (s : State) : (mergeCredit r a b s).prog = s.prog := by simp only [mergeCredit]; (repeat' split) <;> first | rfl | simp
@[simp] theorem mergeCredit_sampling (r : Run) (a b : Nat) (s : State) : (mergeCredit r a b s).sampling = s.sampling := by simp only [mergeCredit]; (repeat' split) <;> first | rfl | simp
@[simp] theorem mergeCredit_run (r : Run) (a b : Nat) (s : State) : (mergeCredit r a b s).run = s.run := by simp only [mergeCredit]; (repeat' split) <;> first | rfl | simp
@[simp] theorem mergeCredit_lastRun (r : Run) (a b : Nat) (s : State) : (mergeCredit r a b s).lastRun = s.lastRun := by simp only [mergeCredit]; (repeat' split) <;> first | rfl | simp
@[simp] theorem mergeCredit_runCounter (r : Run) (a b : Nat) (s : State) : (mergeCredit r a b s).runCounter = s.runCounter := by simp only [mergeCredit]; (repeat' split) <;> first | rfl | simp
@[simp] theorem mergeCredit_gap (r : Run) (a b : Nat) (s : State) : (mergeCredit r a b s).gap = s.gap := by simp only [mergeCredit]; (repeat' split) <;> first | rfl | simp
@[simp] theorem mergeCredit_planner (r : Run) (a b : Nat) (s : State) : (mergeCredit r a b s).planner = s.planner := by simp only [mergeCredit]; (repeat' split) <;> first | rfl | simp
@[simp] theorem mergeCredit_catchSet (r : Run) (a b : Nat) (s : State) : (mergeCredit r a b s).catchSet = s.catchSet := by simp only [mergeCredit]; (repeat' split) <;> first | rfl | simp
@[simp] theorem mergeCredit_sparkOk (r : Run) (a b : Nat) (s : State) : (mergeCredit r a b s).sparkOk = s.sparkOk := by simp only [mergeCredit]; (repeat' split) <;> first | rfl | simp
@[simp] theorem mergeCredit_threadOk (r : Run) (a b : Nat) (s : State) : (mergeCredit r a b s).threadOk = s.threadOk := by simp only [mergeCredit]; (repeat' split) <;> first | rfl | simp
@[simp] theorem mergeCredit_holdIn (r : Run) (a b : Nat) (s : State) : (mergeCredit r a b s).holdIn = s.holdIn := by simp only [mergeCredit]; (repeat' split) <;> first | rfl | simp
@[simp] theorem mergeCredit_shortIn (r : Run) (a b : Nat) (s : State) : (mergeCredit r a b s).shortIn = s.shortIn := by simp only [mergeCredit]; (repeat' split) <;> first | rfl | simp
@[simp] theorem mergeCredit_trace (r : Run) (a b : Nat) (s : State) : (mergeCredit r a b s).trace = s.trace := by simp only [mergeCredit]; (repeat' split) <;> first | rfl | simp
@[simp] theorem mergeCredit_freeCount (r : Run) (a b : Nat) (s : State) : (mergeCredit r a b s).freeCount = s.freeCount := by simp only [mergeCredit]; (repeat' split) <;> first | rfl | simp
@[simp] theorem mergeCredit_pending (r : Run) (a b : Nat) (s : State) : (mergeCredit r a b s).pending = s.pending := by simp only [mergeCredit]; (repeat' split) <;> first | rfl | simp
@[simp] theorem setTilt_resetLow (i : Nat) (s : State) : (setTilt i s).resetLow = s.resetLow := by simp only [setTilt]; (repeat' split) <;> first | rfl | simp
@[simp] theorem setTilt_device (i : Nat) (s : State) : (setTilt i s).device = s.device := by simp only [setTilt]; (repeat' split) <;> first | rfl | simp
@[simp] theorem setTilt_selfTest (i : Nat) (s : State) : (setTilt i s).selfTest = s.selfTest := by simp only [setTilt]; (repeat' split) <;> first | rfl | simp
@[simp] theorem setTilt_selfTestLeft (i : Nat) (s : State) : (setTilt i s).selfTestLeft = s.selfTestLeft := by simp only [setTilt]; (repeat' split) <;> first | rfl | simp
@[simp] theorem setTilt_cfg (i : Nat) (s : State) : (setTilt i s).cfg = s.cfg := by simp only [setTilt]; (repeat' split) <;> first | rfl | simp
@[simp] theorem setTilt_axisX (i : Nat) (s : State) : (setTilt i s).axisX = s.axisX := by simp only [setTilt]; (repeat' split) <;> first | rfl | simp
@[simp] theorem setTilt_axisY (i : Nat) (s : State) : (setTilt i s).axisY = s.axisY := by simp only [setTilt]; (repeat' split) <;> first | rfl | simp
@[simp] theorem setTilt_prog (i : Nat) (s : State) : (setTilt i s).prog = s.prog := by simp only [setTilt]; (repeat' split) <;> first | rfl | simp
@[simp] theorem setTilt_sampling (i : Nat) (s : State) : (setTilt i s).sampling = s.sampling := by simp only [setTilt]; (repeat' split) <;> first | rfl | simp
@[simp] theorem setTilt_run (i : Nat) (s : State) : (setTilt i s).run = s.run := by simp only [setTilt]; (repeat' split) <;> first | rfl | simp
@[simp] theorem setTilt_lastRun (i : Nat) (s : State) : (setTilt i s).lastRun = s.lastRun := by simp only [setTilt]; (repeat' split) <;> first | rfl | simp
@[simp] theorem setTilt_runCounter (i : Nat) (s : State) : (setTilt i s).runCounter = s.runCounter := by simp only [setTilt]; (repeat' split) <;> first | rfl | simp
@[simp] theorem setTilt_gap (i : Nat) (s : State) : (setTilt i s).gap = s.gap := by simp only [setTilt]; (repeat' split) <;> first | rfl | simp
@[simp] theorem setTilt_planner (i : Nat) (s : State) : (setTilt i s).planner = s.planner := by simp only [setTilt]; (repeat' split) <;> first | rfl | simp
@[simp] theorem setTilt_catchSet (i : Nat) (s : State) : (setTilt i s).catchSet = s.catchSet := by simp only [setTilt]; (repeat' split) <;> first | rfl | simp
@[simp] theorem setTilt_sparkOk (i : Nat) (s : State) : (setTilt i s).sparkOk = s.sparkOk := by simp only [setTilt]; (repeat' split) <;> first | rfl | simp
@[simp] theorem setTilt_threadOk (i : Nat) (s : State) : (setTilt i s).threadOk = s.threadOk := by simp only [setTilt]; (repeat' split) <;> first | rfl | simp
@[simp] theorem setTilt_holdIn (i : Nat) (s : State) : (setTilt i s).holdIn = s.holdIn := by simp only [setTilt]; (repeat' split) <;> first | rfl | simp
@[simp] theorem setTilt_shortIn (i : Nat) (s : State) : (setTilt i s).shortIn = s.shortIn := by simp only [setTilt]; (repeat' split) <;> first | rfl | simp
@[simp] theorem setTilt_trace (i : Nat) (s : State) : (setTilt i s).trace = s.trace := by simp only [setTilt]; (repeat' split) <;> first | rfl | simp
@[simp] theorem setTilt_freeCount (i : Nat) (s : State) : (setTilt i s).freeCount = s.freeCount := by simp only [setTilt]; (repeat' split) <;> first | rfl | simp
@[simp] theorem setTilt_pending (i : Nat) (s : State) : (setTilt i s).pending = s.pending := by simp only [setTilt]; (repeat' split) <;> first | rfl | simp

/-! ### Phases and halts -/

@[simp] theorem ineligible_resetLow (s : State) : (ineligible s).resetLow = s.resetLow := rfl
@[simp] theorem ineligible_device (s : State) : (ineligible s).device = s.device := rfl
@[simp] theorem ineligible_selfTest (s : State) : (ineligible s).selfTest = s.selfTest := rfl
@[simp] theorem ineligible_selfTestLeft (s : State) : (ineligible s).selfTestLeft = s.selfTestLeft := rfl
@[simp] theorem ineligible_cfg (s : State) : (ineligible s).cfg = s.cfg := rfl
@[simp] theorem ineligible_axisX (s : State) : (ineligible s).axisX = s.axisX := rfl
@[simp] theorem ineligible_axisY (s : State) : (ineligible s).axisY = s.axisY := rfl
@[simp] theorem ineligible_plate (s : State) : (ineligible s).plate = s.plate := rfl
@[simp] theorem ineligible_prog (s : State) : (ineligible s).prog = s.prog := rfl
@[simp] theorem ineligible_sampling (s : State) : (ineligible s).sampling = s.sampling := rfl
@[simp] theorem ineligible_run (s : State) : (ineligible s).run = s.run := rfl
@[simp] theorem ineligible_lastRun (s : State) : (ineligible s).lastRun = s.lastRun := rfl
@[simp] theorem ineligible_runCounter (s : State) : (ineligible s).runCounter = s.runCounter := rfl
@[simp] theorem ineligible_planner (s : State) : (ineligible s).planner = s.planner := rfl
@[simp] theorem ineligible_catchSet (s : State) : (ineligible s).catchSet = s.catchSet := rfl
@[simp] theorem ineligible_sparkOk (s : State) : (ineligible s).sparkOk = s.sparkOk := rfl
@[simp] theorem ineligible_threadOk (s : State) : (ineligible s).threadOk = s.threadOk := rfl
@[simp] theorem ineligible_holdIn (s : State) : (ineligible s).holdIn = s.holdIn := rfl
@[simp] theorem ineligible_shortIn (s : State) : (ineligible s).shortIn = s.shortIn := rfl
@[simp] theorem ineligible_motion (s : State) : (ineligible s).motion = s.motion := rfl
@[simp] theorem ineligible_thread (s : State) : (ineligible s).thread = s.thread := rfl
@[simp] theorem ineligible_cell (s : State) : (ineligible s).cell = s.cell := rfl
@[simp] theorem ineligible_trace (s : State) : (ineligible s).trace = s.trace := rfl
@[simp] theorem ineligible_freeCount (s : State) : (ineligible s).freeCount = s.freeCount := rfl
@[simp] theorem ineligible_pending (s : State) : (ineligible s).pending = s.pending := rfl
@[simp] theorem settleTrigger_resetLow (s : State) : (settleTrigger s).resetLow = s.resetLow := rfl
@[simp] theorem settleTrigger_device (s : State) : (settleTrigger s).device = s.device := rfl
@[simp] theorem settleTrigger_selfTest (s : State) : (settleTrigger s).selfTest = s.selfTest := rfl
@[simp] theorem settleTrigger_selfTestLeft (s : State) : (settleTrigger s).selfTestLeft = s.selfTestLeft := rfl
@[simp] theorem settleTrigger_cfg (s : State) : (settleTrigger s).cfg = s.cfg := rfl
@[simp] theorem settleTrigger_axisX (s : State) : (settleTrigger s).axisX = s.axisX := rfl
@[simp] theorem settleTrigger_axisY (s : State) : (settleTrigger s).axisY = s.axisY := rfl
@[simp] theorem settleTrigger_plate (s : State) : (settleTrigger s).plate = s.plate := rfl
@[simp] theorem settleTrigger_prog (s : State) : (settleTrigger s).prog = s.prog := rfl
@[simp] theorem settleTrigger_sampling (s : State) : (settleTrigger s).sampling = s.sampling := rfl
@[simp] theorem settleTrigger_run (s : State) : (settleTrigger s).run = s.run := rfl
@[simp] theorem settleTrigger_lastRun (s : State) : (settleTrigger s).lastRun = s.lastRun := rfl
@[simp] theorem settleTrigger_runCounter (s : State) : (settleTrigger s).runCounter = s.runCounter := rfl
@[simp] theorem settleTrigger_planner (s : State) : (settleTrigger s).planner = s.planner := rfl
@[simp] theorem settleTrigger_catchSet (s : State) : (settleTrigger s).catchSet = s.catchSet := rfl
@[simp] theorem settleTrigger_sparkOk (s : State) : (settleTrigger s).sparkOk = s.sparkOk := rfl
@[simp] theorem settleTrigger_threadOk (s : State) : (settleTrigger s).threadOk = s.threadOk := rfl
@[simp] theorem settleTrigger_holdIn (s : State) : (settleTrigger s).holdIn = s.holdIn := rfl
@[simp] theorem settleTrigger_shortIn (s : State) : (settleTrigger s).shortIn = s.shortIn := rfl
@[simp] theorem settleTrigger_motion (s : State) : (settleTrigger s).motion = s.motion := rfl
@[simp] theorem settleTrigger_thread (s : State) : (settleTrigger s).thread = s.thread := rfl
@[simp] theorem settleTrigger_cell (s : State) : (settleTrigger s).cell = s.cell := rfl
@[simp] theorem settleTrigger_trace (s : State) : (settleTrigger s).trace = s.trace := rfl
@[simp] theorem settleTrigger_freeCount (s : State) : (settleTrigger s).freeCount = s.freeCount := rfl
@[simp] theorem settleTrigger_pending (s : State) : (settleTrigger s).pending = s.pending := rfl
@[simp] theorem settleOnResume_resetLow (s : State) : (settleOnResume s).resetLow = s.resetLow := by unfold settleOnResume; split <;> rfl
@[simp] theorem settleOnResume_device (s : State) : (settleOnResume s).device = s.device := by unfold settleOnResume; split <;> rfl
@[simp] theorem settleOnResume_selfTest (s : State) : (settleOnResume s).selfTest = s.selfTest := by unfold settleOnResume; split <;> rfl
@[simp] theorem settleOnResume_selfTestLeft (s : State) : (settleOnResume s).selfTestLeft = s.selfTestLeft := by unfold settleOnResume; split <;> rfl
@[simp] theorem settleOnResume_cfg (s : State) : (settleOnResume s).cfg = s.cfg := by unfold settleOnResume; split <;> rfl
@[simp] theorem settleOnResume_axisX (s : State) : (settleOnResume s).axisX = s.axisX := by unfold settleOnResume; split <;> rfl
@[simp] theorem settleOnResume_axisY (s : State) : (settleOnResume s).axisY = s.axisY := by unfold settleOnResume; split <;> rfl
@[simp] theorem settleOnResume_plate (s : State) : (settleOnResume s).plate = s.plate := by unfold settleOnResume; split <;> rfl
@[simp] theorem settleOnResume_prog (s : State) : (settleOnResume s).prog = s.prog := by unfold settleOnResume; split <;> rfl
@[simp] theorem settleOnResume_sampling (s : State) : (settleOnResume s).sampling = s.sampling := by unfold settleOnResume; split <;> rfl
@[simp] theorem settleOnResume_run (s : State) : (settleOnResume s).run = s.run := by unfold settleOnResume; split <;> rfl
@[simp] theorem settleOnResume_lastRun (s : State) : (settleOnResume s).lastRun = s.lastRun := by unfold settleOnResume; split <;> rfl
@[simp] theorem settleOnResume_runCounter (s : State) : (settleOnResume s).runCounter = s.runCounter := by unfold settleOnResume; split <;> rfl
@[simp] theorem settleOnResume_planner (s : State) : (settleOnResume s).planner = s.planner := by unfold settleOnResume; split <;> rfl
@[simp] theorem settleOnResume_catchSet (s : State) : (settleOnResume s).catchSet = s.catchSet := by unfold settleOnResume; split <;> rfl
@[simp] theorem settleOnResume_sparkOk (s : State) : (settleOnResume s).sparkOk = s.sparkOk := by unfold settleOnResume; split <;> rfl
@[simp] theorem settleOnResume_threadOk (s : State) : (settleOnResume s).threadOk = s.threadOk := by unfold settleOnResume; split <;> rfl
@[simp] theorem settleOnResume_holdIn (s : State) : (settleOnResume s).holdIn = s.holdIn := by unfold settleOnResume; split <;> rfl
@[simp] theorem settleOnResume_shortIn (s : State) : (settleOnResume s).shortIn = s.shortIn := by unfold settleOnResume; split <;> rfl
@[simp] theorem settleOnResume_motion (s : State) : (settleOnResume s).motion = s.motion := by unfold settleOnResume; split <;> rfl
@[simp] theorem settleOnResume_thread (s : State) : (settleOnResume s).thread = s.thread := by unfold settleOnResume; split <;> rfl
@[simp] theorem settleOnResume_cell (s : State) : (settleOnResume s).cell = s.cell := by unfold settleOnResume; split <;> rfl
@[simp] theorem settleOnResume_trace (s : State) : (settleOnResume s).trace = s.trace := by unfold settleOnResume; split <;> rfl
@[simp] theorem settleOnResume_freeCount (s : State) : (settleOnResume s).freeCount = s.freeCount := by unfold settleOnResume; split <;> rfl
@[simp] theorem settleOnResume_pending (s : State) : (settleOnResume s).pending = s.pending := by unfold settleOnResume; split <;> rfl
@[simp] theorem clearMismatch_resetLow (s : State) : (clearMismatch s).resetLow = s.resetLow := rfl
@[simp] theorem clearMismatch_device (s : State) : (clearMismatch s).device = s.device := rfl
@[simp] theorem clearMismatch_selfTest (s : State) : (clearMismatch s).selfTest = s.selfTest := rfl
@[simp] theorem clearMismatch_selfTestLeft (s : State) : (clearMismatch s).selfTestLeft = s.selfTestLeft := rfl
@[simp] theorem clearMismatch_cfg (s : State) : (clearMismatch s).cfg = s.cfg := rfl
@[simp] theorem clearMismatch_axisX (s : State) : (clearMismatch s).axisX = s.axisX := rfl
@[simp] theorem clearMismatch_axisY (s : State) : (clearMismatch s).axisY = s.axisY := rfl
@[simp] theorem clearMismatch_plate (s : State) : (clearMismatch s).plate = s.plate := rfl
@[simp] theorem clearMismatch_prog (s : State) : (clearMismatch s).prog = s.prog := rfl
@[simp] theorem clearMismatch_sampling (s : State) : (clearMismatch s).sampling = s.sampling := rfl
@[simp] theorem clearMismatch_run (s : State) : (clearMismatch s).run = s.run := rfl
@[simp] theorem clearMismatch_lastRun (s : State) : (clearMismatch s).lastRun = s.lastRun := rfl
@[simp] theorem clearMismatch_runCounter (s : State) : (clearMismatch s).runCounter = s.runCounter := rfl
@[simp] theorem clearMismatch_planner (s : State) : (clearMismatch s).planner = s.planner := rfl
@[simp] theorem clearMismatch_catchSet (s : State) : (clearMismatch s).catchSet = s.catchSet := rfl
@[simp] theorem clearMismatch_sparkOk (s : State) : (clearMismatch s).sparkOk = s.sparkOk := rfl
@[simp] theorem clearMismatch_threadOk (s : State) : (clearMismatch s).threadOk = s.threadOk := rfl
@[simp] theorem clearMismatch_holdIn (s : State) : (clearMismatch s).holdIn = s.holdIn := rfl
@[simp] theorem clearMismatch_shortIn (s : State) : (clearMismatch s).shortIn = s.shortIn := rfl
@[simp] theorem clearMismatch_motion (s : State) : (clearMismatch s).motion = s.motion := rfl
@[simp] theorem clearMismatch_thread (s : State) : (clearMismatch s).thread = s.thread := rfl
@[simp] theorem clearMismatch_cell (s : State) : (clearMismatch s).cell = s.cell := rfl
@[simp] theorem clearMismatch_trace (s : State) : (clearMismatch s).trace = s.trace := rfl
@[simp] theorem clearMismatch_freeCount (s : State) : (clearMismatch s).freeCount = s.freeCount := rfl
@[simp] theorem clearMismatch_pending (s : State) : (clearMismatch s).pending = s.pending := rfl
@[simp] theorem abandonSample_resetLow (s : State) : (abandonSample s).resetLow = s.resetLow := by unfold abandonSample; split <;> rfl
@[simp] theorem abandonSample_device (s : State) : (abandonSample s).device = s.device := by unfold abandonSample; split <;> rfl
@[simp] theorem abandonSample_selfTest (s : State) : (abandonSample s).selfTest = s.selfTest := by unfold abandonSample; split <;> rfl
@[simp] theorem abandonSample_selfTestLeft (s : State) : (abandonSample s).selfTestLeft = s.selfTestLeft := by unfold abandonSample; split <;> rfl
@[simp] theorem abandonSample_cfg (s : State) : (abandonSample s).cfg = s.cfg := by unfold abandonSample; split <;> rfl
@[simp] theorem abandonSample_axisX (s : State) : (abandonSample s).axisX = s.axisX := by unfold abandonSample; split <;> rfl
@[simp] theorem abandonSample_axisY (s : State) : (abandonSample s).axisY = s.axisY := by unfold abandonSample; split <;> rfl
@[simp] theorem abandonSample_plate (s : State) : (abandonSample s).plate = s.plate := by unfold abandonSample; split <;> rfl
@[simp] theorem abandonSample_prog (s : State) : (abandonSample s).prog = s.prog := by unfold abandonSample; split <;> rfl
@[simp] theorem abandonSample_run (s : State) : (abandonSample s).run = s.run := by unfold abandonSample; split <;> rfl
@[simp] theorem abandonSample_lastRun (s : State) : (abandonSample s).lastRun = s.lastRun := by unfold abandonSample; split <;> rfl
@[simp] theorem abandonSample_runCounter (s : State) : (abandonSample s).runCounter = s.runCounter := by unfold abandonSample; split <;> rfl
@[simp] theorem abandonSample_planner (s : State) : (abandonSample s).planner = s.planner := by unfold abandonSample; split <;> rfl
@[simp] theorem abandonSample_catchSet (s : State) : (abandonSample s).catchSet = s.catchSet := by unfold abandonSample; split <;> rfl
@[simp] theorem abandonSample_sparkOk (s : State) : (abandonSample s).sparkOk = s.sparkOk := by unfold abandonSample; split <;> rfl
@[simp] theorem abandonSample_threadOk (s : State) : (abandonSample s).threadOk = s.threadOk := by unfold abandonSample; split <;> rfl
@[simp] theorem abandonSample_holdIn (s : State) : (abandonSample s).holdIn = s.holdIn := by unfold abandonSample; split <;> rfl
@[simp] theorem abandonSample_shortIn (s : State) : (abandonSample s).shortIn = s.shortIn := by unfold abandonSample; split <;> rfl
@[simp] theorem abandonSample_motion (s : State) : (abandonSample s).motion = s.motion := by unfold abandonSample; split <;> rfl
@[simp] theorem abandonSample_thread (s : State) : (abandonSample s).thread = s.thread := by unfold abandonSample; split <;> rfl
@[simp] theorem abandonSample_cell (s : State) : (abandonSample s).cell = s.cell := by unfold abandonSample; split <;> rfl
@[simp] theorem abandonSample_trace (s : State) : (abandonSample s).trace = s.trace := by unfold abandonSample; split <;> rfl
@[simp] theorem abandonSample_freeCount (s : State) : (abandonSample s).freeCount = s.freeCount := by unfold abandonSample; split <;> rfl
@[simp] theorem abandonSample_pending (s : State) : (abandonSample s).pending = s.pending := by unfold abandonSample; split <;> rfl
@[simp] theorem setPhase_resetLow (p : Phase) (s : State) : (setPhase p s).resetLow = s.resetLow := by unfold setPhase; split <;> [rfl; (split <;> rfl)]
@[simp] theorem setPhase_device (p : Phase) (s : State) : (setPhase p s).device = s.device := by unfold setPhase; split <;> [rfl; (split <;> rfl)]
@[simp] theorem setPhase_selfTest (p : Phase) (s : State) : (setPhase p s).selfTest = s.selfTest := by unfold setPhase; split <;> [rfl; (split <;> rfl)]
@[simp] theorem setPhase_selfTestLeft (p : Phase) (s : State) : (setPhase p s).selfTestLeft = s.selfTestLeft := by unfold setPhase; split <;> [rfl; (split <;> rfl)]
@[simp] theorem setPhase_cfg (p : Phase) (s : State) : (setPhase p s).cfg = s.cfg := by unfold setPhase; split <;> [rfl; (split <;> rfl)]
@[simp] theorem setPhase_axisX (p : Phase) (s : State) : (setPhase p s).axisX = s.axisX := by unfold setPhase; split <;> [rfl; (split <;> rfl)]
@[simp] theorem setPhase_axisY (p : Phase) (s : State) : (setPhase p s).axisY = s.axisY := by unfold setPhase; split <;> [rfl; (split <;> rfl)]
@[simp] theorem setPhase_plate (p : Phase) (s : State) : (setPhase p s).plate = s.plate := by unfold setPhase; split <;> [rfl; (split <;> rfl)]
@[simp] theorem setPhase_prog (p : Phase) (s : State) : (setPhase p s).prog = s.prog := by unfold setPhase; split <;> [rfl; (split <;> rfl)]
@[simp] theorem setPhase_sampling (p : Phase) (s : State) : (setPhase p s).sampling = s.sampling := by unfold setPhase; split <;> [rfl; (split <;> rfl)]
@[simp] theorem setPhase_lastRun (p : Phase) (s : State) : (setPhase p s).lastRun = s.lastRun := by unfold setPhase; split <;> [rfl; (split <;> rfl)]
@[simp] theorem setPhase_runCounter (p : Phase) (s : State) : (setPhase p s).runCounter = s.runCounter := by unfold setPhase; split <;> [rfl; (split <;> rfl)]
@[simp] theorem setPhase_planner (p : Phase) (s : State) : (setPhase p s).planner = s.planner := by unfold setPhase; split <;> [rfl; (split <;> rfl)]
@[simp] theorem setPhase_catchSet (p : Phase) (s : State) : (setPhase p s).catchSet = s.catchSet := by unfold setPhase; split <;> [rfl; (split <;> rfl)]
@[simp] theorem setPhase_sparkOk (p : Phase) (s : State) : (setPhase p s).sparkOk = s.sparkOk := by unfold setPhase; split <;> [rfl; (split <;> rfl)]
@[simp] theorem setPhase_threadOk (p : Phase) (s : State) : (setPhase p s).threadOk = s.threadOk := by unfold setPhase; split <;> [rfl; (split <;> rfl)]
@[simp] theorem setPhase_holdIn (p : Phase) (s : State) : (setPhase p s).holdIn = s.holdIn := by unfold setPhase; split <;> [rfl; (split <;> rfl)]
@[simp] theorem setPhase_shortIn (p : Phase) (s : State) : (setPhase p s).shortIn = s.shortIn := by unfold setPhase; split <;> [rfl; (split <;> rfl)]
@[simp] theorem setPhase_trace (p : Phase) (s : State) : (setPhase p s).trace = s.trace := by unfold setPhase; split <;> [rfl; (split <;> rfl)]
@[simp] theorem setPhase_freeCount (p : Phase) (s : State) : (setPhase p s).freeCount = s.freeCount := by unfold setPhase; split <;> [rfl; (split <;> rfl)]
@[simp] theorem setPhase_pending (p : Phase) (s : State) : (setPhase p s).pending = s.pending := by unfold setPhase; split <;> [rfl; (split <;> rfl)]
@[simp] theorem haltRun_resetLow (c : Causes) (s : State) : (haltRun c s).resetLow = s.resetLow := by unfold haltRun; split <;> simp
@[simp] theorem haltRun_device (c : Causes) (s : State) : (haltRun c s).device = s.device := by unfold haltRun; split <;> simp
@[simp] theorem haltRun_selfTest (c : Causes) (s : State) : (haltRun c s).selfTest = s.selfTest := by unfold haltRun; split <;> simp
@[simp] theorem haltRun_selfTestLeft (c : Causes) (s : State) : (haltRun c s).selfTestLeft = s.selfTestLeft := by unfold haltRun; split <;> simp
@[simp] theorem haltRun_cfg (c : Causes) (s : State) : (haltRun c s).cfg = s.cfg := by unfold haltRun; split <;> simp
@[simp] theorem haltRun_axisX (c : Causes) (s : State) : (haltRun c s).axisX = s.axisX := by unfold haltRun; split <;> simp
@[simp] theorem haltRun_axisY (c : Causes) (s : State) : (haltRun c s).axisY = s.axisY := by unfold haltRun; split <;> simp
@[simp] theorem haltRun_plate (c : Causes) (s : State) : (haltRun c s).plate = s.plate := by unfold haltRun; split <;> simp
@[simp] theorem haltRun_prog (c : Causes) (s : State) : (haltRun c s).prog = s.prog := by unfold haltRun; split <;> simp
@[simp] theorem haltRun_lastRun (c : Causes) (s : State) : (haltRun c s).lastRun = s.lastRun := by unfold haltRun; split <;> simp
@[simp] theorem haltRun_runCounter (c : Causes) (s : State) : (haltRun c s).runCounter = s.runCounter := by unfold haltRun; split <;> simp
@[simp] theorem haltRun_planner (c : Causes) (s : State) : (haltRun c s).planner = s.planner := by unfold haltRun; split <;> simp
@[simp] theorem haltRun_catchSet (c : Causes) (s : State) : (haltRun c s).catchSet = s.catchSet := by unfold haltRun; split <;> simp
@[simp] theorem haltRun_sparkOk (c : Causes) (s : State) : (haltRun c s).sparkOk = s.sparkOk := by unfold haltRun; split <;> simp
@[simp] theorem haltRun_threadOk (c : Causes) (s : State) : (haltRun c s).threadOk = s.threadOk := by unfold haltRun; split <;> simp
@[simp] theorem haltRun_holdIn (c : Causes) (s : State) : (haltRun c s).holdIn = s.holdIn := by unfold haltRun; split <;> simp
@[simp] theorem haltRun_shortIn (c : Causes) (s : State) : (haltRun c s).shortIn = s.shortIn := by unfold haltRun; split <;> simp
@[simp] theorem haltRun_trace (c : Causes) (s : State) : (haltRun c s).trace = s.trace := by unfold haltRun; split <;> simp
@[simp] theorem haltRun_freeCount (c : Causes) (s : State) : (haltRun c s).freeCount = s.freeCount := by unfold haltRun; split <;> simp
@[simp] theorem haltRun_pending (c : Causes) (s : State) : (haltRun c s).pending = s.pending := by unfold haltRun; split <;> simp
@[simp] theorem arise_resetLow (c : Causes) (s : State) : (arise c s).resetLow = s.resetLow := by simp only [arise]; (repeat' split) <;> first | rfl | simp
@[simp] theorem arise_device (c : Causes) (s : State) : (arise c s).device = s.device := by simp only [arise]; (repeat' split) <;> first | rfl | simp
@[simp] theorem arise_selfTest (c : Causes) (s : State) : (arise c s).selfTest = s.selfTest := by simp only [arise]; (repeat' split) <;> first | rfl | simp
@[simp] theorem arise_selfTestLeft (c : Causes) (s : State) : (arise c s).selfTestLeft = s.selfTestLeft := by simp only [arise]; (repeat' split) <;> first | rfl | simp
@[simp] theorem arise_cfg (c : Causes) (s : State) : (arise c s).cfg = s.cfg := by simp only [arise]; (repeat' split) <;> first | rfl | simp
@[simp] theorem arise_axisX (c : Causes) (s : State) : (arise c s).axisX = s.axisX := by simp only [arise]; (repeat' split) <;> first | rfl | simp
@[simp] theorem arise_axisY (c : Causes) (s : State) : (arise c s).axisY = s.axisY := by simp only [arise]; (repeat' split) <;> first | rfl | simp
@[simp] theorem arise_plate (c : Causes) (s : State) : (arise c s).plate = s.plate := by simp only [arise]; (repeat' split) <;> first | rfl | simp
@[simp] theorem arise_prog (c : Causes) (s : State) : (arise c s).prog = s.prog := by simp only [arise]; (repeat' split) <;> first | rfl | simp
@[simp] theorem arise_lastRun (c : Causes) (s : State) : (arise c s).lastRun = s.lastRun := by simp only [arise]; (repeat' split) <;> first | rfl | simp
@[simp] theorem arise_runCounter (c : Causes) (s : State) : (arise c s).runCounter = s.runCounter := by simp only [arise]; (repeat' split) <;> first | rfl | simp
@[simp] theorem arise_planner (c : Causes) (s : State) : (arise c s).planner = s.planner := by simp only [arise]; (repeat' split) <;> first | rfl | simp
@[simp] theorem arise_catchSet (c : Causes) (s : State) : (arise c s).catchSet = s.catchSet := by simp only [arise]; (repeat' split) <;> first | rfl | simp
@[simp] theorem arise_sparkOk (c : Causes) (s : State) : (arise c s).sparkOk = s.sparkOk := by simp only [arise]; (repeat' split) <;> first | rfl | simp
@[simp] theorem arise_threadOk (c : Causes) (s : State) : (arise c s).threadOk = s.threadOk := by simp only [arise]; (repeat' split) <;> first | rfl | simp
@[simp] theorem arise_holdIn (c : Causes) (s : State) : (arise c s).holdIn = s.holdIn := by simp only [arise]; (repeat' split) <;> first | rfl | simp
@[simp] theorem arise_shortIn (c : Causes) (s : State) : (arise c s).shortIn = s.shortIn := by simp only [arise]; (repeat' split) <;> first | rfl | simp
@[simp] theorem arise_trace (c : Causes) (s : State) : (arise c s).trace = s.trace := by simp only [arise]; (repeat' split) <;> first | rfl | simp
@[simp] theorem arise_freeCount (c : Causes) (s : State) : (arise c s).freeCount = s.freeCount := by simp only [arise]; (repeat' split) <;> first | rfl | simp
@[simp] theorem arise_pending (c : Causes) (s : State) : (arise c s).pending = s.pending := by simp only [arise]; (repeat' split) <;> first | rfl | simp
@[simp] theorem haltIfStanding_resetLow (s : State) : (haltIfStanding s).resetLow = s.resetLow := by simp only [haltIfStanding]; (repeat' split) <;> first | rfl | simp
@[simp] theorem haltIfStanding_device (s : State) : (haltIfStanding s).device = s.device := by simp only [haltIfStanding]; (repeat' split) <;> first | rfl | simp
@[simp] theorem haltIfStanding_selfTest (s : State) : (haltIfStanding s).selfTest = s.selfTest := by simp only [haltIfStanding]; (repeat' split) <;> first | rfl | simp
@[simp] theorem haltIfStanding_selfTestLeft (s : State) : (haltIfStanding s).selfTestLeft = s.selfTestLeft := by simp only [haltIfStanding]; (repeat' split) <;> first | rfl | simp
@[simp] theorem haltIfStanding_cfg (s : State) : (haltIfStanding s).cfg = s.cfg := by simp only [haltIfStanding]; (repeat' split) <;> first | rfl | simp
@[simp] theorem haltIfStanding_axisX (s : State) : (haltIfStanding s).axisX = s.axisX := by simp only [haltIfStanding]; (repeat' split) <;> first | rfl | simp
@[simp] theorem haltIfStanding_axisY (s : State) : (haltIfStanding s).axisY = s.axisY := by simp only [haltIfStanding]; (repeat' split) <;> first | rfl | simp
@[simp] theorem haltIfStanding_plate (s : State) : (haltIfStanding s).plate = s.plate := by simp only [haltIfStanding]; (repeat' split) <;> first | rfl | simp
@[simp] theorem haltIfStanding_prog (s : State) : (haltIfStanding s).prog = s.prog := by simp only [haltIfStanding]; (repeat' split) <;> first | rfl | simp
@[simp] theorem haltIfStanding_lastRun (s : State) : (haltIfStanding s).lastRun = s.lastRun := by simp only [haltIfStanding]; (repeat' split) <;> first | rfl | simp
@[simp] theorem haltIfStanding_runCounter (s : State) : (haltIfStanding s).runCounter = s.runCounter := by simp only [haltIfStanding]; (repeat' split) <;> first | rfl | simp
@[simp] theorem haltIfStanding_planner (s : State) : (haltIfStanding s).planner = s.planner := by simp only [haltIfStanding]; (repeat' split) <;> first | rfl | simp
@[simp] theorem haltIfStanding_catchSet (s : State) : (haltIfStanding s).catchSet = s.catchSet := by simp only [haltIfStanding]; (repeat' split) <;> first | rfl | simp
@[simp] theorem haltIfStanding_holdIn (s : State) : (haltIfStanding s).holdIn = s.holdIn := by simp only [haltIfStanding]; (repeat' split) <;> first | rfl | simp
@[simp] theorem haltIfStanding_shortIn (s : State) : (haltIfStanding s).shortIn = s.shortIn := by simp only [haltIfStanding]; (repeat' split) <;> first | rfl | simp
@[simp] theorem haltIfStanding_trace (s : State) : (haltIfStanding s).trace = s.trace := by simp only [haltIfStanding]; (repeat' split) <;> first | rfl | simp
@[simp] theorem haltIfStanding_pending (s : State) : (haltIfStanding s).pending = s.pending := by simp only [haltIfStanding]; (repeat' split) <;> first | rfl | simp
@[simp] theorem entryTrigger_resetLow (p : Phase) (s : State) : (entryTrigger p s).resetLow = s.resetLow := by unfold entryTrigger; split <;> first | rfl | simp
@[simp] theorem entryTrigger_device (p : Phase) (s : State) : (entryTrigger p s).device = s.device := by unfold entryTrigger; split <;> first | rfl | simp
@[simp] theorem entryTrigger_selfTest (p : Phase) (s : State) : (entryTrigger p s).selfTest = s.selfTest := by unfold entryTrigger; split <;> first | rfl | simp
@[simp] theorem entryTrigger_selfTestLeft (p : Phase) (s : State) : (entryTrigger p s).selfTestLeft = s.selfTestLeft := by unfold entryTrigger; split <;> first | rfl | simp
@[simp] theorem entryTrigger_cfg (p : Phase) (s : State) : (entryTrigger p s).cfg = s.cfg := by unfold entryTrigger; split <;> first | rfl | simp
@[simp] theorem entryTrigger_axisX (p : Phase) (s : State) : (entryTrigger p s).axisX = s.axisX := by unfold entryTrigger; split <;> first | rfl | simp
@[simp] theorem entryTrigger_axisY (p : Phase) (s : State) : (entryTrigger p s).axisY = s.axisY := by unfold entryTrigger; split <;> first | rfl | simp
@[simp] theorem entryTrigger_plate (p : Phase) (s : State) : (entryTrigger p s).plate = s.plate := by unfold entryTrigger; split <;> first | rfl | simp
@[simp] theorem entryTrigger_prog (p : Phase) (s : State) : (entryTrigger p s).prog = s.prog := by unfold entryTrigger; split <;> first | rfl | simp
@[simp] theorem entryTrigger_sampling (p : Phase) (s : State) : (entryTrigger p s).sampling = s.sampling := by unfold entryTrigger; split <;> first | rfl | simp
@[simp] theorem entryTrigger_run (p : Phase) (s : State) : (entryTrigger p s).run = s.run := by unfold entryTrigger; split <;> first | rfl | simp
@[simp] theorem entryTrigger_lastRun (p : Phase) (s : State) : (entryTrigger p s).lastRun = s.lastRun := by unfold entryTrigger; split <;> first | rfl | simp
@[simp] theorem entryTrigger_runCounter (p : Phase) (s : State) : (entryTrigger p s).runCounter = s.runCounter := by unfold entryTrigger; split <;> first | rfl | simp
@[simp] theorem entryTrigger_planner (p : Phase) (s : State) : (entryTrigger p s).planner = s.planner := by unfold entryTrigger; split <;> first | rfl | simp
@[simp] theorem entryTrigger_catchSet (p : Phase) (s : State) : (entryTrigger p s).catchSet = s.catchSet := by unfold entryTrigger; split <;> first | rfl | simp
@[simp] theorem entryTrigger_sparkOk (p : Phase) (s : State) : (entryTrigger p s).sparkOk = s.sparkOk := by unfold entryTrigger; split <;> first | rfl | simp
@[simp] theorem entryTrigger_threadOk (p : Phase) (s : State) : (entryTrigger p s).threadOk = s.threadOk := by unfold entryTrigger; split <;> first | rfl | simp
@[simp] theorem entryTrigger_holdIn (p : Phase) (s : State) : (entryTrigger p s).holdIn = s.holdIn := by unfold entryTrigger; split <;> first | rfl | simp
@[simp] theorem entryTrigger_shortIn (p : Phase) (s : State) : (entryTrigger p s).shortIn = s.shortIn := by unfold entryTrigger; split <;> first | rfl | simp
@[simp] theorem entryTrigger_motion (p : Phase) (s : State) : (entryTrigger p s).motion = s.motion := by unfold entryTrigger; split <;> first | rfl | simp
@[simp] theorem entryTrigger_thread (p : Phase) (s : State) : (entryTrigger p s).thread = s.thread := by unfold entryTrigger; split <;> first | rfl | simp
@[simp] theorem entryTrigger_cell (p : Phase) (s : State) : (entryTrigger p s).cell = s.cell := by unfold entryTrigger; split <;> first | rfl | simp
@[simp] theorem entryTrigger_trace (p : Phase) (s : State) : (entryTrigger p s).trace = s.trace := by unfold entryTrigger; split <;> first | rfl | simp
@[simp] theorem entryTrigger_freeCount (p : Phase) (s : State) : (entryTrigger p s).freeCount = s.freeCount := by unfold entryTrigger; split <;> first | rfl | simp
@[simp] theorem entryTrigger_pending (p : Phase) (s : State) : (entryTrigger p s).pending = s.pending := by unfold entryTrigger; split <;> first | rfl | simp
@[simp] theorem enterTracking_resetLow (p : Phase) (s : State) : (enterTracking p s).resetLow = s.resetLow := by unfold enterTracking; simp
@[simp] theorem enterTracking_device (p : Phase) (s : State) : (enterTracking p s).device = s.device := by unfold enterTracking; simp
@[simp] theorem enterTracking_selfTest (p : Phase) (s : State) : (enterTracking p s).selfTest = s.selfTest := by unfold enterTracking; simp
@[simp] theorem enterTracking_selfTestLeft (p : Phase) (s : State) : (enterTracking p s).selfTestLeft = s.selfTestLeft := by unfold enterTracking; simp
@[simp] theorem enterTracking_cfg (p : Phase) (s : State) : (enterTracking p s).cfg = s.cfg := by unfold enterTracking; simp
@[simp] theorem enterTracking_axisX (p : Phase) (s : State) : (enterTracking p s).axisX = s.axisX := by unfold enterTracking; simp
@[simp] theorem enterTracking_axisY (p : Phase) (s : State) : (enterTracking p s).axisY = s.axisY := by unfold enterTracking; simp
@[simp] theorem enterTracking_plate (p : Phase) (s : State) : (enterTracking p s).plate = s.plate := by unfold enterTracking; simp
@[simp] theorem enterTracking_prog (p : Phase) (s : State) : (enterTracking p s).prog = s.prog := by unfold enterTracking; simp
@[simp] theorem enterTracking_lastRun (p : Phase) (s : State) : (enterTracking p s).lastRun = s.lastRun := by unfold enterTracking; simp
@[simp] theorem enterTracking_runCounter (p : Phase) (s : State) : (enterTracking p s).runCounter = s.runCounter := by unfold enterTracking; simp
@[simp] theorem enterTracking_planner (p : Phase) (s : State) : (enterTracking p s).planner = s.planner := by unfold enterTracking; simp
@[simp] theorem enterTracking_catchSet (p : Phase) (s : State) : (enterTracking p s).catchSet = s.catchSet := by unfold enterTracking; simp
@[simp] theorem enterTracking_holdIn (p : Phase) (s : State) : (enterTracking p s).holdIn = s.holdIn := by unfold enterTracking; simp
@[simp] theorem enterTracking_shortIn (p : Phase) (s : State) : (enterTracking p s).shortIn = s.shortIn := by unfold enterTracking; simp
@[simp] theorem enterTracking_trace (p : Phase) (s : State) : (enterTracking p s).trace = s.trace := by unfold enterTracking; simp
@[simp] theorem enterTracking_pending (p : Phase) (s : State) : (enterTracking p s).pending = s.pending := by unfold enterTracking; simp
@[simp] theorem postAtLimit_resetLow (s : State) : (postAtLimit s).resetLow = s.resetLow := by unfold postAtLimit; split <;> rfl
@[simp] theorem postAtLimit_device (s : State) : (postAtLimit s).device = s.device := by unfold postAtLimit; split <;> rfl
@[simp] theorem postAtLimit_selfTest (s : State) : (postAtLimit s).selfTest = s.selfTest := by unfold postAtLimit; split <;> rfl
@[simp] theorem postAtLimit_selfTestLeft (s : State) : (postAtLimit s).selfTestLeft = s.selfTestLeft := by unfold postAtLimit; split <;> rfl
@[simp] theorem postAtLimit_cfg (s : State) : (postAtLimit s).cfg = s.cfg := by unfold postAtLimit; split <;> rfl
@[simp] theorem postAtLimit_axisX (s : State) : (postAtLimit s).axisX = s.axisX := by unfold postAtLimit; split <;> rfl
@[simp] theorem postAtLimit_axisY (s : State) : (postAtLimit s).axisY = s.axisY := by unfold postAtLimit; split <;> rfl
@[simp] theorem postAtLimit_plate (s : State) : (postAtLimit s).plate = s.plate := by unfold postAtLimit; split <;> rfl
@[simp] theorem postAtLimit_prog (s : State) : (postAtLimit s).prog = s.prog := by unfold postAtLimit; split <;> rfl
@[simp] theorem postAtLimit_sampling (s : State) : (postAtLimit s).sampling = s.sampling := by unfold postAtLimit; split <;> rfl
@[simp] theorem postAtLimit_run (s : State) : (postAtLimit s).run = s.run := by unfold postAtLimit; split <;> rfl
@[simp] theorem postAtLimit_lastRun (s : State) : (postAtLimit s).lastRun = s.lastRun := by unfold postAtLimit; split <;> rfl
@[simp] theorem postAtLimit_runCounter (s : State) : (postAtLimit s).runCounter = s.runCounter := by unfold postAtLimit; split <;> rfl
@[simp] theorem postAtLimit_gap (s : State) : (postAtLimit s).gap = s.gap := by unfold postAtLimit; split <;> rfl
@[simp] theorem postAtLimit_planner (s : State) : (postAtLimit s).planner = s.planner := by unfold postAtLimit; split <;> rfl
@[simp] theorem postAtLimit_catchSet (s : State) : (postAtLimit s).catchSet = s.catchSet := by unfold postAtLimit; split <;> rfl
@[simp] theorem postAtLimit_sparkOk (s : State) : (postAtLimit s).sparkOk = s.sparkOk := by unfold postAtLimit; split <;> rfl
@[simp] theorem postAtLimit_threadOk (s : State) : (postAtLimit s).threadOk = s.threadOk := by unfold postAtLimit; split <;> rfl
@[simp] theorem postAtLimit_holdIn (s : State) : (postAtLimit s).holdIn = s.holdIn := by unfold postAtLimit; split <;> rfl
@[simp] theorem postAtLimit_shortIn (s : State) : (postAtLimit s).shortIn = s.shortIn := by unfold postAtLimit; split <;> rfl
@[simp] theorem postAtLimit_trace (s : State) : (postAtLimit s).trace = s.trace := by unfold postAtLimit; split <;> rfl
@[simp] theorem postAtLimit_freeCount (s : State) : (postAtLimit s).freeCount = s.freeCount := by unfold postAtLimit; split <;> rfl
@[simp] theorem postAtLimit_pending (s : State) : (postAtLimit s).pending = s.pending := by unfold postAtLimit; split <;> rfl
@[simp] theorem enterCutting_resetLow (s : State) : (enterCutting s).resetLow = s.resetLow := by simp only [enterCutting]; (repeat' split) <;> first | rfl | simp
@[simp] theorem enterCutting_device (s : State) : (enterCutting s).device = s.device := by simp only [enterCutting]; (repeat' split) <;> first | rfl | simp
@[simp] theorem enterCutting_selfTest (s : State) : (enterCutting s).selfTest = s.selfTest := by simp only [enterCutting]; (repeat' split) <;> first | rfl | simp
@[simp] theorem enterCutting_selfTestLeft (s : State) : (enterCutting s).selfTestLeft = s.selfTestLeft := by simp only [enterCutting]; (repeat' split) <;> first | rfl | simp
@[simp] theorem enterCutting_cfg (s : State) : (enterCutting s).cfg = s.cfg := by simp only [enterCutting]; (repeat' split) <;> first | rfl | simp
@[simp] theorem enterCutting_axisX (s : State) : (enterCutting s).axisX = s.axisX := by simp only [enterCutting]; (repeat' split) <;> first | rfl | simp
@[simp] theorem enterCutting_axisY (s : State) : (enterCutting s).axisY = s.axisY := by simp only [enterCutting]; (repeat' split) <;> first | rfl | simp
@[simp] theorem enterCutting_plate (s : State) : (enterCutting s).plate = s.plate := by simp only [enterCutting]; (repeat' split) <;> first | rfl | simp
@[simp] theorem enterCutting_prog (s : State) : (enterCutting s).prog = s.prog := by simp only [enterCutting]; (repeat' split) <;> first | rfl | simp
@[simp] theorem enterCutting_lastRun (s : State) : (enterCutting s).lastRun = s.lastRun := by simp only [enterCutting]; (repeat' split) <;> first | rfl | simp
@[simp] theorem enterCutting_runCounter (s : State) : (enterCutting s).runCounter = s.runCounter := by simp only [enterCutting]; (repeat' split) <;> first | rfl | simp
@[simp] theorem enterCutting_planner (s : State) : (enterCutting s).planner = s.planner := by simp only [enterCutting]; (repeat' split) <;> first | rfl | simp
@[simp] theorem enterCutting_catchSet (s : State) : (enterCutting s).catchSet = s.catchSet := by simp only [enterCutting]; (repeat' split) <;> first | rfl | simp
@[simp] theorem enterCutting_holdIn (s : State) : (enterCutting s).holdIn = s.holdIn := by simp only [enterCutting]; (repeat' split) <;> first | rfl | simp
@[simp] theorem enterCutting_shortIn (s : State) : (enterCutting s).shortIn = s.shortIn := by simp only [enterCutting]; (repeat' split) <;> first | rfl | simp
@[simp] theorem enterCutting_trace (s : State) : (enterCutting s).trace = s.trace := by simp only [enterCutting]; (repeat' split) <;> first | rfl | simp
@[simp] theorem enterCutting_pending (s : State) : (enterCutting s).pending = s.pending := by simp only [enterCutting]; (repeat' split) <;> first | rfl | simp
@[simp] theorem evaluateWarn_resetLow (s : State) : (evaluateWarn s).resetLow = s.resetLow := by simp only [evaluateWarn]; (repeat' split) <;> rfl
@[simp] theorem evaluateWarn_device (s : State) : (evaluateWarn s).device = s.device := by simp only [evaluateWarn]; (repeat' split) <;> rfl
@[simp] theorem evaluateWarn_selfTest (s : State) : (evaluateWarn s).selfTest = s.selfTest := by simp only [evaluateWarn]; (repeat' split) <;> rfl
@[simp] theorem evaluateWarn_selfTestLeft (s : State) : (evaluateWarn s).selfTestLeft = s.selfTestLeft := by simp only [evaluateWarn]; (repeat' split) <;> rfl
@[simp] theorem evaluateWarn_cfg (s : State) : (evaluateWarn s).cfg = s.cfg := by simp only [evaluateWarn]; (repeat' split) <;> rfl
@[simp] theorem evaluateWarn_axisX (s : State) : (evaluateWarn s).axisX = s.axisX := by simp only [evaluateWarn]; (repeat' split) <;> rfl
@[simp] theorem evaluateWarn_axisY (s : State) : (evaluateWarn s).axisY = s.axisY := by simp only [evaluateWarn]; (repeat' split) <;> rfl
@[simp] theorem evaluateWarn_plate (s : State) : (evaluateWarn s).plate = s.plate := by simp only [evaluateWarn]; (repeat' split) <;> rfl
@[simp] theorem evaluateWarn_prog (s : State) : (evaluateWarn s).prog = s.prog := by simp only [evaluateWarn]; (repeat' split) <;> rfl
@[simp] theorem evaluateWarn_sampling (s : State) : (evaluateWarn s).sampling = s.sampling := by simp only [evaluateWarn]; (repeat' split) <;> rfl
@[simp] theorem evaluateWarn_lastRun (s : State) : (evaluateWarn s).lastRun = s.lastRun := by simp only [evaluateWarn]; (repeat' split) <;> rfl
@[simp] theorem evaluateWarn_runCounter (s : State) : (evaluateWarn s).runCounter = s.runCounter := by simp only [evaluateWarn]; (repeat' split) <;> rfl
@[simp] theorem evaluateWarn_gap (s : State) : (evaluateWarn s).gap = s.gap := by simp only [evaluateWarn]; (repeat' split) <;> rfl
@[simp] theorem evaluateWarn_planner (s : State) : (evaluateWarn s).planner = s.planner := by simp only [evaluateWarn]; (repeat' split) <;> rfl
@[simp] theorem evaluateWarn_catchSet (s : State) : (evaluateWarn s).catchSet = s.catchSet := by simp only [evaluateWarn]; (repeat' split) <;> rfl
@[simp] theorem evaluateWarn_sparkOk (s : State) : (evaluateWarn s).sparkOk = s.sparkOk := by simp only [evaluateWarn]; (repeat' split) <;> rfl
@[simp] theorem evaluateWarn_threadOk (s : State) : (evaluateWarn s).threadOk = s.threadOk := by simp only [evaluateWarn]; (repeat' split) <;> rfl
@[simp] theorem evaluateWarn_holdIn (s : State) : (evaluateWarn s).holdIn = s.holdIn := by simp only [evaluateWarn]; (repeat' split) <;> rfl
@[simp] theorem evaluateWarn_shortIn (s : State) : (evaluateWarn s).shortIn = s.shortIn := by simp only [evaluateWarn]; (repeat' split) <;> rfl
@[simp] theorem evaluateWarn_trace (s : State) : (evaluateWarn s).trace = s.trace := by simp only [evaluateWarn]; (repeat' split) <;> rfl
@[simp] theorem evaluateWarn_freeCount (s : State) : (evaluateWarn s).freeCount = s.freeCount := by simp only [evaluateWarn]; (repeat' split) <;> rfl
@[simp] theorem evaluateWarn_pending (s : State) : (evaluateWarn s).pending = s.pending := by simp only [evaluateWarn]; (repeat' split) <;> rfl
@[simp] theorem postCatchNeeded_resetLow (r : Run) (h : Bool) (m : Limits) (s : State) : (postCatchNeeded r h m s).resetLow = s.resetLow := by unfold postCatchNeeded; split <;> rfl
@[simp] theorem postCatchNeeded_device (r : Run) (h : Bool) (m : Limits) (s : State) : (postCatchNeeded r h m s).device = s.device := by unfold postCatchNeeded; split <;> rfl
@[simp] theorem postCatchNeeded_selfTest (r : Run) (h : Bool) (m : Limits) (s : State) : (postCatchNeeded r h m s).selfTest = s.selfTest := by unfold postCatchNeeded; split <;> rfl
@[simp] theorem postCatchNeeded_selfTestLeft (r : Run) (h : Bool) (m : Limits) (s : State) : (postCatchNeeded r h m s).selfTestLeft = s.selfTestLeft := by unfold postCatchNeeded; split <;> rfl
@[simp] theorem postCatchNeeded_cfg (r : Run) (h : Bool) (m : Limits) (s : State) : (postCatchNeeded r h m s).cfg = s.cfg := by unfold postCatchNeeded; split <;> rfl
@[simp] theorem postCatchNeeded_axisX (r : Run) (h : Bool) (m : Limits) (s : State) : (postCatchNeeded r h m s).axisX = s.axisX := by unfold postCatchNeeded; split <;> rfl
@[simp] theorem postCatchNeeded_axisY (r : Run) (h : Bool) (m : Limits) (s : State) : (postCatchNeeded r h m s).axisY = s.axisY := by unfold postCatchNeeded; split <;> rfl
@[simp] theorem postCatchNeeded_plate (r : Run) (h : Bool) (m : Limits) (s : State) : (postCatchNeeded r h m s).plate = s.plate := by unfold postCatchNeeded; split <;> rfl
@[simp] theorem postCatchNeeded_prog (r : Run) (h : Bool) (m : Limits) (s : State) : (postCatchNeeded r h m s).prog = s.prog := by unfold postCatchNeeded; split <;> rfl
@[simp] theorem postCatchNeeded_sampling (r : Run) (h : Bool) (m : Limits) (s : State) : (postCatchNeeded r h m s).sampling = s.sampling := by unfold postCatchNeeded; split <;> rfl
@[simp] theorem postCatchNeeded_run (r : Run) (h : Bool) (m : Limits) (s : State) : (postCatchNeeded r h m s).run = s.run := by unfold postCatchNeeded; split <;> rfl
@[simp] theorem postCatchNeeded_lastRun (r : Run) (h : Bool) (m : Limits) (s : State) : (postCatchNeeded r h m s).lastRun = s.lastRun := by unfold postCatchNeeded; split <;> rfl
@[simp] theorem postCatchNeeded_runCounter (r : Run) (h : Bool) (m : Limits) (s : State) : (postCatchNeeded r h m s).runCounter = s.runCounter := by unfold postCatchNeeded; split <;> rfl
@[simp] theorem postCatchNeeded_gap (r : Run) (h : Bool) (m : Limits) (s : State) : (postCatchNeeded r h m s).gap = s.gap := by unfold postCatchNeeded; split <;> rfl
@[simp] theorem postCatchNeeded_planner (r : Run) (h : Bool) (m : Limits) (s : State) : (postCatchNeeded r h m s).planner = s.planner := by unfold postCatchNeeded; split <;> rfl
@[simp] theorem postCatchNeeded_catchSet (r : Run) (h : Bool) (m : Limits) (s : State) : (postCatchNeeded r h m s).catchSet = s.catchSet := by unfold postCatchNeeded; split <;> rfl
@[simp] theorem postCatchNeeded_sparkOk (r : Run) (h : Bool) (m : Limits) (s : State) : (postCatchNeeded r h m s).sparkOk = s.sparkOk := by unfold postCatchNeeded; split <;> rfl
@[simp] theorem postCatchNeeded_threadOk (r : Run) (h : Bool) (m : Limits) (s : State) : (postCatchNeeded r h m s).threadOk = s.threadOk := by unfold postCatchNeeded; split <;> rfl
@[simp] theorem postCatchNeeded_holdIn (r : Run) (h : Bool) (m : Limits) (s : State) : (postCatchNeeded r h m s).holdIn = s.holdIn := by unfold postCatchNeeded; split <;> rfl
@[simp] theorem postCatchNeeded_shortIn (r : Run) (h : Bool) (m : Limits) (s : State) : (postCatchNeeded r h m s).shortIn = s.shortIn := by unfold postCatchNeeded; split <;> rfl
@[simp] theorem postCatchNeeded_trace (r : Run) (h : Bool) (m : Limits) (s : State) : (postCatchNeeded r h m s).trace = s.trace := by unfold postCatchNeeded; split <;> rfl
@[simp] theorem postCatchNeeded_freeCount (r : Run) (h : Bool) (m : Limits) (s : State) : (postCatchNeeded r h m s).freeCount = s.freeCount := by unfold postCatchNeeded; split <;> rfl
@[simp] theorem postCatchNeeded_pending (r : Run) (h : Bool) (m : Limits) (s : State) : (postCatchNeeded r h m s).pending = s.pending := by unfold postCatchNeeded; split <;> rfl
@[simp] theorem recomputeLimits_resetLow (s : State) : (recomputeLimits s).resetLow = s.resetLow := by simp only [recomputeLimits]; (repeat' split) <;> first | rfl | simp
@[simp] theorem recomputeLimits_device (s : State) : (recomputeLimits s).device = s.device := by simp only [recomputeLimits]; (repeat' split) <;> first | rfl | simp
@[simp] theorem recomputeLimits_selfTest (s : State) : (recomputeLimits s).selfTest = s.selfTest := by simp only [recomputeLimits]; (repeat' split) <;> first | rfl | simp
@[simp] theorem recomputeLimits_selfTestLeft (s : State) : (recomputeLimits s).selfTestLeft = s.selfTestLeft := by simp only [recomputeLimits]; (repeat' split) <;> first | rfl | simp
@[simp] theorem recomputeLimits_cfg (s : State) : (recomputeLimits s).cfg = s.cfg := by simp only [recomputeLimits]; (repeat' split) <;> first | rfl | simp
@[simp] theorem recomputeLimits_axisX (s : State) : (recomputeLimits s).axisX = s.axisX := by simp only [recomputeLimits]; (repeat' split) <;> first | rfl | simp
@[simp] theorem recomputeLimits_axisY (s : State) : (recomputeLimits s).axisY = s.axisY := by simp only [recomputeLimits]; (repeat' split) <;> first | rfl | simp
@[simp] theorem recomputeLimits_plate (s : State) : (recomputeLimits s).plate = s.plate := by simp only [recomputeLimits]; (repeat' split) <;> first | rfl | simp
@[simp] theorem recomputeLimits_prog (s : State) : (recomputeLimits s).prog = s.prog := by simp only [recomputeLimits]; (repeat' split) <;> first | rfl | simp
@[simp] theorem recomputeLimits_lastRun (s : State) : (recomputeLimits s).lastRun = s.lastRun := by simp only [recomputeLimits]; (repeat' split) <;> first | rfl | simp
@[simp] theorem recomputeLimits_runCounter (s : State) : (recomputeLimits s).runCounter = s.runCounter := by simp only [recomputeLimits]; (repeat' split) <;> first | rfl | simp
@[simp] theorem recomputeLimits_planner (s : State) : (recomputeLimits s).planner = s.planner := by simp only [recomputeLimits]; (repeat' split) <;> first | rfl | simp
@[simp] theorem recomputeLimits_catchSet (s : State) : (recomputeLimits s).catchSet = s.catchSet := by simp only [recomputeLimits]; (repeat' split) <;> first | rfl | simp
@[simp] theorem recomputeLimits_holdIn (s : State) : (recomputeLimits s).holdIn = s.holdIn := by simp only [recomputeLimits]; (repeat' split) <;> first | rfl | simp
@[simp] theorem recomputeLimits_shortIn (s : State) : (recomputeLimits s).shortIn = s.shortIn := by simp only [recomputeLimits]; (repeat' split) <;> first | rfl | simp
@[simp] theorem recomputeLimits_trace (s : State) : (recomputeLimits s).trace = s.trace := by simp only [recomputeLimits]; (repeat' split) <;> first | rfl | simp
@[simp] theorem recomputeLimits_pending (s : State) : (recomputeLimits s).pending = s.pending := by simp only [recomputeLimits]; (repeat' split) <;> first | rfl | simp

/-! ### Planner -/

@[simp] theorem pathReset_resetLow (s : State) : (pathReset s).resetLow = s.resetLow := rfl
@[simp] theorem pathReset_device (s : State) : (pathReset s).device = s.device := rfl
@[simp] theorem pathReset_selfTest (s : State) : (pathReset s).selfTest = s.selfTest := rfl
@[simp] theorem pathReset_selfTestLeft (s : State) : (pathReset s).selfTestLeft = s.selfTestLeft := rfl
@[simp] theorem pathReset_cfg (s : State) : (pathReset s).cfg = s.cfg := rfl
@[simp] theorem pathReset_axisX (s : State) : (pathReset s).axisX = s.axisX := rfl
@[simp] theorem pathReset_axisY (s : State) : (pathReset s).axisY = s.axisY := rfl
@[simp] theorem pathReset_plate (s : State) : (pathReset s).plate = s.plate := rfl
@[simp] theorem pathReset_sampling (s : State) : (pathReset s).sampling = s.sampling := rfl
@[simp] theorem pathReset_run (s : State) : (pathReset s).run = s.run := rfl
@[simp] theorem pathReset_lastRun (s : State) : (pathReset s).lastRun = s.lastRun := rfl
@[simp] theorem pathReset_runCounter (s : State) : (pathReset s).runCounter = s.runCounter := rfl
@[simp] theorem pathReset_planner (s : State) : (pathReset s).planner = s.planner := rfl
@[simp] theorem pathReset_catchSet (s : State) : (pathReset s).catchSet = s.catchSet := rfl
@[simp] theorem pathReset_sparkOk (s : State) : (pathReset s).sparkOk = s.sparkOk := rfl
@[simp] theorem pathReset_threadOk (s : State) : (pathReset s).threadOk = s.threadOk := rfl
@[simp] theorem pathReset_holdIn (s : State) : (pathReset s).holdIn = s.holdIn := rfl
@[simp] theorem pathReset_shortIn (s : State) : (pathReset s).shortIn = s.shortIn := rfl
@[simp] theorem pathReset_motion (s : State) : (pathReset s).motion = s.motion := rfl
@[simp] theorem pathReset_thread (s : State) : (pathReset s).thread = s.thread := rfl
@[simp] theorem pathReset_cell (s : State) : (pathReset s).cell = s.cell := rfl
@[simp] theorem pathReset_trace (s : State) : (pathReset s).trace = s.trace := rfl
@[simp] theorem pathReset_freeCount (s : State) : (pathReset s).freeCount = s.freeCount := rfl
@[simp] theorem pathReset_pending (s : State) : (pathReset s).pending = s.pending := rfl
@[simp] theorem leadInStart_resetLow (h : Nat) (s : State) : (leadInStart h s).resetLow = s.resetLow := by simp only [leadInStart]; (repeat' split) <;> rfl
@[simp] theorem leadInStart_device (h : Nat) (s : State) : (leadInStart h s).device = s.device := by simp only [leadInStart]; (repeat' split) <;> rfl
@[simp] theorem leadInStart_selfTest (h : Nat) (s : State) : (leadInStart h s).selfTest = s.selfTest := by simp only [leadInStart]; (repeat' split) <;> rfl
@[simp] theorem leadInStart_selfTestLeft (h : Nat) (s : State) : (leadInStart h s).selfTestLeft = s.selfTestLeft := by simp only [leadInStart]; (repeat' split) <;> rfl
@[simp] theorem leadInStart_cfg (h : Nat) (s : State) : (leadInStart h s).cfg = s.cfg := by simp only [leadInStart]; (repeat' split) <;> rfl
@[simp] theorem leadInStart_axisX (h : Nat) (s : State) : (leadInStart h s).axisX = s.axisX := by simp only [leadInStart]; (repeat' split) <;> rfl
@[simp] theorem leadInStart_axisY (h : Nat) (s : State) : (leadInStart h s).axisY = s.axisY := by simp only [leadInStart]; (repeat' split) <;> rfl
@[simp] theorem leadInStart_plate (h : Nat) (s : State) : (leadInStart h s).plate = s.plate := by simp only [leadInStart]; (repeat' split) <;> rfl
@[simp] theorem leadInStart_sampling (h : Nat) (s : State) : (leadInStart h s).sampling = s.sampling := by simp only [leadInStart]; (repeat' split) <;> rfl
@[simp] theorem leadInStart_run (h : Nat) (s : State) : (leadInStart h s).run = s.run := by simp only [leadInStart]; (repeat' split) <;> rfl
@[simp] theorem leadInStart_lastRun (h : Nat) (s : State) : (leadInStart h s).lastRun = s.lastRun := by simp only [leadInStart]; (repeat' split) <;> rfl
@[simp] theorem leadInStart_runCounter (h : Nat) (s : State) : (leadInStart h s).runCounter = s.runCounter := by simp only [leadInStart]; (repeat' split) <;> rfl
@[simp] theorem leadInStart_planner (h : Nat) (s : State) : (leadInStart h s).planner = s.planner := by simp only [leadInStart]; (repeat' split) <;> rfl
@[simp] theorem leadInStart_catchSet (h : Nat) (s : State) : (leadInStart h s).catchSet = s.catchSet := by simp only [leadInStart]; (repeat' split) <;> rfl
@[simp] theorem leadInStart_sparkOk (h : Nat) (s : State) : (leadInStart h s).sparkOk = s.sparkOk := by simp only [leadInStart]; (repeat' split) <;> rfl
@[simp] theorem leadInStart_threadOk (h : Nat) (s : State) : (leadInStart h s).threadOk = s.threadOk := by simp only [leadInStart]; (repeat' split) <;> rfl
@[simp] theorem leadInStart_holdIn (h : Nat) (s : State) : (leadInStart h s).holdIn = s.holdIn := by simp only [leadInStart]; (repeat' split) <;> rfl
@[simp] theorem leadInStart_shortIn (h : Nat) (s : State) : (leadInStart h s).shortIn = s.shortIn := by simp only [leadInStart]; (repeat' split) <;> rfl
@[simp] theorem leadInStart_motion (h : Nat) (s : State) : (leadInStart h s).motion = s.motion := by simp only [leadInStart]; (repeat' split) <;> rfl
@[simp] theorem leadInStart_thread (h : Nat) (s : State) : (leadInStart h s).thread = s.thread := by simp only [leadInStart]; (repeat' split) <;> rfl
@[simp] theorem leadInStart_cell (h : Nat) (s : State) : (leadInStart h s).cell = s.cell := by simp only [leadInStart]; (repeat' split) <;> rfl
@[simp] theorem leadInStart_trace (h : Nat) (s : State) : (leadInStart h s).trace = s.trace := by simp only [leadInStart]; (repeat' split) <;> rfl
@[simp] theorem leadInStart_freeCount (h : Nat) (s : State) : (leadInStart h s).freeCount = s.freeCount := by simp only [leadInStart]; (repeat' split) <;> rfl
@[simp] theorem leadInStart_pending (h : Nat) (s : State) : (leadInStart h s).pending = s.pending := by simp only [leadInStart]; (repeat' split) <;> rfl
@[simp] theorem loopStart_resetLow (q : Nat) (s : State) : (loopStart q s).resetLow = s.resetLow := by simp only [loopStart]; (repeat' split) <;> rfl
@[simp] theorem loopStart_device (q : Nat) (s : State) : (loopStart q s).device = s.device := by simp only [loopStart]; (repeat' split) <;> rfl
@[simp] theorem loopStart_selfTest (q : Nat) (s : State) : (loopStart q s).selfTest = s.selfTest := by simp only [loopStart]; (repeat' split) <;> rfl
@[simp] theorem loopStart_selfTestLeft (q : Nat) (s : State) : (loopStart q s).selfTestLeft = s.selfTestLeft := by simp only [loopStart]; (repeat' split) <;> rfl
@[simp] theorem loopStart_cfg (q : Nat) (s : State) : (loopStart q s).cfg = s.cfg := by simp only [loopStart]; (repeat' split) <;> rfl
@[simp] theorem loopStart_axisX (q : Nat) (s : State) : (loopStart q s).axisX = s.axisX := by simp only [loopStart]; (repeat' split) <;> rfl
@[simp] theorem loopStart_axisY (q : Nat) (s : State) : (loopStart q s).axisY = s.axisY := by simp only [loopStart]; (repeat' split) <;> rfl
@[simp] theorem loopStart_plate (q : Nat) (s : State) : (loopStart q s).plate = s.plate := by simp only [loopStart]; (repeat' split) <;> rfl
@[simp] theorem loopStart_sampling (q : Nat) (s : State) : (loopStart q s).sampling = s.sampling := by simp only [loopStart]; (repeat' split) <;> rfl
@[simp] theorem loopStart_run (q : Nat) (s : State) : (loopStart q s).run = s.run := by simp only [loopStart]; (repeat' split) <;> rfl
@[simp] theorem loopStart_lastRun (q : Nat) (s : State) : (loopStart q s).lastRun = s.lastRun := by simp only [loopStart]; (repeat' split) <;> rfl
@[simp] theorem loopStart_runCounter (q : Nat) (s : State) : (loopStart q s).runCounter = s.runCounter := by simp only [loopStart]; (repeat' split) <;> rfl
@[simp] theorem loopStart_planner (q : Nat) (s : State) : (loopStart q s).planner = s.planner := by simp only [loopStart]; (repeat' split) <;> rfl
@[simp] theorem loopStart_catchSet (q : Nat) (s : State) : (loopStart q s).catchSet = s.catchSet := by simp only [loopStart]; (repeat' split) <;> rfl
@[simp] theorem loopStart_sparkOk (q : Nat) (s : State) : (loopStart q s).sparkOk = s.sparkOk := by simp only [loopStart]; (repeat' split) <;> rfl
@[simp] theorem loopStart_threadOk (q : Nat) (s : State) : (loopStart q s).threadOk = s.threadOk := by simp only [loopStart]; (repeat' split) <;> rfl
@[simp] theorem loopStart_holdIn (q : Nat) (s : State) : (loopStart q s).holdIn = s.holdIn := by simp only [loopStart]; (repeat' split) <;> rfl
@[simp] theorem loopStart_shortIn (q : Nat) (s : State) : (loopStart q s).shortIn = s.shortIn := by simp only [loopStart]; (repeat' split) <;> rfl
@[simp] theorem loopStart_motion (q : Nat) (s : State) : (loopStart q s).motion = s.motion := by simp only [loopStart]; (repeat' split) <;> rfl
@[simp] theorem loopStart_thread (q : Nat) (s : State) : (loopStart q s).thread = s.thread := by simp only [loopStart]; (repeat' split) <;> rfl
@[simp] theorem loopStart_cell (q : Nat) (s : State) : (loopStart q s).cell = s.cell := by simp only [loopStart]; (repeat' split) <;> rfl
@[simp] theorem loopStart_trace (q : Nat) (s : State) : (loopStart q s).trace = s.trace := by simp only [loopStart]; (repeat' split) <;> rfl
@[simp] theorem loopStart_freeCount (q : Nat) (s : State) : (loopStart q s).freeCount = s.freeCount := by simp only [loopStart]; (repeat' split) <;> rfl
@[simp] theorem loopStart_pending (q : Nat) (s : State) : (loopStart q s).pending = s.pending := by simp only [loopStart]; (repeat' split) <;> rfl
@[simp] theorem setTarget_resetLow (u : Purpose) (p : Place) (c : Nat) (t : Point) (s : State) : (setTarget u p c t s).resetLow = s.resetLow := rfl
@[simp] theorem setTarget_device (u : Purpose) (p : Place) (c : Nat) (t : Point) (s : State) : (setTarget u p c t s).device = s.device := rfl
@[simp] theorem setTarget_selfTest (u : Purpose) (p : Place) (c : Nat) (t : Point) (s : State) : (setTarget u p c t s).selfTest = s.selfTest := rfl
@[simp] theorem setTarget_selfTestLeft (u : Purpose) (p : Place) (c : Nat) (t : Point) (s : State) : (setTarget u p c t s).selfTestLeft = s.selfTestLeft := rfl
@[simp] theorem setTarget_cfg (u : Purpose) (p : Place) (c : Nat) (t : Point) (s : State) : (setTarget u p c t s).cfg = s.cfg := rfl
@[simp] theorem setTarget_axisX (u : Purpose) (p : Place) (c : Nat) (t : Point) (s : State) : (setTarget u p c t s).axisX = s.axisX := rfl
@[simp] theorem setTarget_axisY (u : Purpose) (p : Place) (c : Nat) (t : Point) (s : State) : (setTarget u p c t s).axisY = s.axisY := rfl
@[simp] theorem setTarget_plate (u : Purpose) (p : Place) (c : Nat) (t : Point) (s : State) : (setTarget u p c t s).plate = s.plate := rfl
@[simp] theorem setTarget_prog (u : Purpose) (p : Place) (c : Nat) (t : Point) (s : State) : (setTarget u p c t s).prog = s.prog := rfl
@[simp] theorem setTarget_sampling (u : Purpose) (p : Place) (c : Nat) (t : Point) (s : State) : (setTarget u p c t s).sampling = s.sampling := rfl
@[simp] theorem setTarget_run (u : Purpose) (p : Place) (c : Nat) (t : Point) (s : State) : (setTarget u p c t s).run = s.run := rfl
@[simp] theorem setTarget_lastRun (u : Purpose) (p : Place) (c : Nat) (t : Point) (s : State) : (setTarget u p c t s).lastRun = s.lastRun := rfl
@[simp] theorem setTarget_runCounter (u : Purpose) (p : Place) (c : Nat) (t : Point) (s : State) : (setTarget u p c t s).runCounter = s.runCounter := rfl
@[simp] theorem setTarget_gap (u : Purpose) (p : Place) (c : Nat) (t : Point) (s : State) : (setTarget u p c t s).gap = s.gap := rfl
@[simp] theorem setTarget_catchSet (u : Purpose) (p : Place) (c : Nat) (t : Point) (s : State) : (setTarget u p c t s).catchSet = s.catchSet := rfl
@[simp] theorem setTarget_sparkOk (u : Purpose) (p : Place) (c : Nat) (t : Point) (s : State) : (setTarget u p c t s).sparkOk = s.sparkOk := rfl
@[simp] theorem setTarget_threadOk (u : Purpose) (p : Place) (c : Nat) (t : Point) (s : State) : (setTarget u p c t s).threadOk = s.threadOk := rfl
@[simp] theorem setTarget_holdIn (u : Purpose) (p : Place) (c : Nat) (t : Point) (s : State) : (setTarget u p c t s).holdIn = s.holdIn := rfl
@[simp] theorem setTarget_shortIn (u : Purpose) (p : Place) (c : Nat) (t : Point) (s : State) : (setTarget u p c t s).shortIn = s.shortIn := rfl
@[simp] theorem setTarget_motion (u : Purpose) (p : Place) (c : Nat) (t : Point) (s : State) : (setTarget u p c t s).motion = s.motion := rfl
@[simp] theorem setTarget_thread (u : Purpose) (p : Place) (c : Nat) (t : Point) (s : State) : (setTarget u p c t s).thread = s.thread := rfl
@[simp] theorem setTarget_cell (u : Purpose) (p : Place) (c : Nat) (t : Point) (s : State) : (setTarget u p c t s).cell = s.cell := rfl
@[simp] theorem setTarget_trace (u : Purpose) (p : Place) (c : Nat) (t : Point) (s : State) : (setTarget u p c t s).trace = s.trace := rfl
@[simp] theorem setTarget_freeCount (u : Purpose) (p : Place) (c : Nat) (t : Point) (s : State) : (setTarget u p c t s).freeCount = s.freeCount := rfl
@[simp] theorem setTarget_pending (u : Purpose) (p : Place) (c : Nat) (t : Point) (s : State) : (setTarget u p c t s).pending = s.pending := rfl
@[simp] theorem postTarget_resetLow (s : State) : (postTarget s).resetLow = s.resetLow := rfl
@[simp] theorem postTarget_device (s : State) : (postTarget s).device = s.device := rfl
@[simp] theorem postTarget_selfTest (s : State) : (postTarget s).selfTest = s.selfTest := rfl
@[simp] theorem postTarget_selfTestLeft (s : State) : (postTarget s).selfTestLeft = s.selfTestLeft := rfl
@[simp] theorem postTarget_cfg (s : State) : (postTarget s).cfg = s.cfg := rfl
@[simp] theorem postTarget_axisX (s : State) : (postTarget s).axisX = s.axisX := rfl
@[simp] theorem postTarget_axisY (s : State) : (postTarget s).axisY = s.axisY := rfl
@[simp] theorem postTarget_plate (s : State) : (postTarget s).plate = s.plate := rfl
@[simp] theorem postTarget_prog (s : State) : (postTarget s).prog = s.prog := rfl
@[simp] theorem postTarget_sampling (s : State) : (postTarget s).sampling = s.sampling := rfl
@[simp] theorem postTarget_run (s : State) : (postTarget s).run = s.run := rfl
@[simp] theorem postTarget_lastRun (s : State) : (postTarget s).lastRun = s.lastRun := rfl
@[simp] theorem postTarget_runCounter (s : State) : (postTarget s).runCounter = s.runCounter := rfl
@[simp] theorem postTarget_gap (s : State) : (postTarget s).gap = s.gap := rfl
@[simp] theorem postTarget_planner (s : State) : (postTarget s).planner = s.planner := rfl
@[simp] theorem postTarget_catchSet (s : State) : (postTarget s).catchSet = s.catchSet := rfl
@[simp] theorem postTarget_sparkOk (s : State) : (postTarget s).sparkOk = s.sparkOk := rfl
@[simp] theorem postTarget_threadOk (s : State) : (postTarget s).threadOk = s.threadOk := rfl
@[simp] theorem postTarget_holdIn (s : State) : (postTarget s).holdIn = s.holdIn := rfl
@[simp] theorem postTarget_shortIn (s : State) : (postTarget s).shortIn = s.shortIn := rfl
@[simp] theorem postTarget_trace (s : State) : (postTarget s).trace = s.trace := rfl
@[simp] theorem postTarget_freeCount (s : State) : (postTarget s).freeCount = s.freeCount := rfl
@[simp] theorem postTarget_pending (s : State) : (postTarget s).pending = s.pending := rfl
@[simp] theorem stopTarget_resetLow (w : Way) (s : State) : (stopTarget w s).resetLow = s.resetLow := rfl
@[simp] theorem stopTarget_device (w : Way) (s : State) : (stopTarget w s).device = s.device := rfl
@[simp] theorem stopTarget_selfTest (w : Way) (s : State) : (stopTarget w s).selfTest = s.selfTest := rfl
@[simp] theorem stopTarget_selfTestLeft (w : Way) (s : State) : (stopTarget w s).selfTestLeft = s.selfTestLeft := rfl
@[simp] theorem stopTarget_cfg (w : Way) (s : State) : (stopTarget w s).cfg = s.cfg := rfl
@[simp] theorem stopTarget_axisX (w : Way) (s : State) : (stopTarget w s).axisX = s.axisX := rfl
@[simp] theorem stopTarget_axisY (w : Way) (s : State) : (stopTarget w s).axisY = s.axisY := rfl
@[simp] theorem stopTarget_plate (w : Way) (s : State) : (stopTarget w s).plate = s.plate := rfl
@[simp] theorem stopTarget_prog (w : Way) (s : State) : (stopTarget w s).prog = s.prog := rfl
@[simp] theorem stopTarget_sampling (w : Way) (s : State) : (stopTarget w s).sampling = s.sampling := rfl
@[simp] theorem stopTarget_run (w : Way) (s : State) : (stopTarget w s).run = s.run := rfl
@[simp] theorem stopTarget_lastRun (w : Way) (s : State) : (stopTarget w s).lastRun = s.lastRun := rfl
@[simp] theorem stopTarget_runCounter (w : Way) (s : State) : (stopTarget w s).runCounter = s.runCounter := rfl
@[simp] theorem stopTarget_gap (w : Way) (s : State) : (stopTarget w s).gap = s.gap := rfl
@[simp] theorem stopTarget_catchSet (w : Way) (s : State) : (stopTarget w s).catchSet = s.catchSet := rfl
@[simp] theorem stopTarget_sparkOk (w : Way) (s : State) : (stopTarget w s).sparkOk = s.sparkOk := rfl
@[simp] theorem stopTarget_threadOk (w : Way) (s : State) : (stopTarget w s).threadOk = s.threadOk := rfl
@[simp] theorem stopTarget_holdIn (w : Way) (s : State) : (stopTarget w s).holdIn = s.holdIn := rfl
@[simp] theorem stopTarget_shortIn (w : Way) (s : State) : (stopTarget w s).shortIn = s.shortIn := rfl
@[simp] theorem stopTarget_motion (w : Way) (s : State) : (stopTarget w s).motion = s.motion := rfl
@[simp] theorem stopTarget_thread (w : Way) (s : State) : (stopTarget w s).thread = s.thread := rfl
@[simp] theorem stopTarget_cell (w : Way) (s : State) : (stopTarget w s).cell = s.cell := rfl
@[simp] theorem stopTarget_trace (w : Way) (s : State) : (stopTarget w s).trace = s.trace := rfl
@[simp] theorem stopTarget_freeCount (w : Way) (s : State) : (stopTarget w s).freeCount = s.freeCount := rfl
@[simp] theorem stopTarget_pending (w : Way) (s : State) : (stopTarget w s).pending = s.pending := rfl
@[simp] theorem startTarget_resetLow (s : State) : (startTarget s).resetLow = s.resetLow := by simp only [startTarget]; (repeat' split) <;> rfl
@[simp] theorem startTarget_device (s : State) : (startTarget s).device = s.device := by simp only [startTarget]; (repeat' split) <;> rfl
@[simp] theorem startTarget_selfTest (s : State) : (startTarget s).selfTest = s.selfTest := by simp only [startTarget]; (repeat' split) <;> rfl
@[simp] theorem startTarget_selfTestLeft (s : State) : (startTarget s).selfTestLeft = s.selfTestLeft := by simp only [startTarget]; (repeat' split) <;> rfl
@[simp] theorem startTarget_cfg (s : State) : (startTarget s).cfg = s.cfg := by simp only [startTarget]; (repeat' split) <;> rfl
@[simp] theorem startTarget_axisX (s : State) : (startTarget s).axisX = s.axisX := by simp only [startTarget]; (repeat' split) <;> rfl
@[simp] theorem startTarget_axisY (s : State) : (startTarget s).axisY = s.axisY := by simp only [startTarget]; (repeat' split) <;> rfl
@[simp] theorem startTarget_plate (s : State) : (startTarget s).plate = s.plate := by simp only [startTarget]; (repeat' split) <;> rfl
@[simp] theorem startTarget_prog (s : State) : (startTarget s).prog = s.prog := by simp only [startTarget]; (repeat' split) <;> rfl
@[simp] theorem startTarget_sampling (s : State) : (startTarget s).sampling = s.sampling := by simp only [startTarget]; (repeat' split) <;> rfl
@[simp] theorem startTarget_run (s : State) : (startTarget s).run = s.run := by simp only [startTarget]; (repeat' split) <;> rfl
@[simp] theorem startTarget_lastRun (s : State) : (startTarget s).lastRun = s.lastRun := by simp only [startTarget]; (repeat' split) <;> rfl
@[simp] theorem startTarget_runCounter (s : State) : (startTarget s).runCounter = s.runCounter := by simp only [startTarget]; (repeat' split) <;> rfl
@[simp] theorem startTarget_gap (s : State) : (startTarget s).gap = s.gap := by simp only [startTarget]; (repeat' split) <;> rfl
@[simp] theorem startTarget_catchSet (s : State) : (startTarget s).catchSet = s.catchSet := by simp only [startTarget]; (repeat' split) <;> rfl
@[simp] theorem startTarget_sparkOk (s : State) : (startTarget s).sparkOk = s.sparkOk := by simp only [startTarget]; (repeat' split) <;> rfl
@[simp] theorem startTarget_threadOk (s : State) : (startTarget s).threadOk = s.threadOk := by simp only [startTarget]; (repeat' split) <;> rfl
@[simp] theorem startTarget_holdIn (s : State) : (startTarget s).holdIn = s.holdIn := by simp only [startTarget]; (repeat' split) <;> rfl
@[simp] theorem startTarget_shortIn (s : State) : (startTarget s).shortIn = s.shortIn := by simp only [startTarget]; (repeat' split) <;> rfl
@[simp] theorem startTarget_motion (s : State) : (startTarget s).motion = s.motion := by simp only [startTarget]; (repeat' split) <;> rfl
@[simp] theorem startTarget_thread (s : State) : (startTarget s).thread = s.thread := by simp only [startTarget]; (repeat' split) <;> rfl
@[simp] theorem startTarget_cell (s : State) : (startTarget s).cell = s.cell := by simp only [startTarget]; (repeat' split) <;> rfl
@[simp] theorem startTarget_trace (s : State) : (startTarget s).trace = s.trace := by simp only [startTarget]; (repeat' split) <;> rfl
@[simp] theorem startTarget_freeCount (s : State) : (startTarget s).freeCount = s.freeCount := by simp only [startTarget]; (repeat' split) <;> rfl
@[simp] theorem startTarget_pending (s : State) : (startTarget s).pending = s.pending := by simp only [startTarget]; (repeat' split) <;> rfl
@[simp] theorem resumeTarget_resetLow (p : Plan) (s : State) : (resumeTarget p s).resetLow = s.resetLow := by unfold resumeTarget; split <;> rfl
@[simp] theorem resumeTarget_device (p : Plan) (s : State) : (resumeTarget p s).device = s.device := by unfold resumeTarget; split <;> rfl
@[simp] theorem resumeTarget_selfTest (p : Plan) (s : State) : (resumeTarget p s).selfTest = s.selfTest := by unfold resumeTarget; split <;> rfl
@[simp] theorem resumeTarget_selfTestLeft (p : Plan) (s : State) : (resumeTarget p s).selfTestLeft = s.selfTestLeft := by unfold resumeTarget; split <;> rfl
@[simp] theorem resumeTarget_cfg (p : Plan) (s : State) : (resumeTarget p s).cfg = s.cfg := by unfold resumeTarget; split <;> rfl
@[simp] theorem resumeTarget_axisX (p : Plan) (s : State) : (resumeTarget p s).axisX = s.axisX := by unfold resumeTarget; split <;> rfl
@[simp] theorem resumeTarget_axisY (p : Plan) (s : State) : (resumeTarget p s).axisY = s.axisY := by unfold resumeTarget; split <;> rfl
@[simp] theorem resumeTarget_plate (p : Plan) (s : State) : (resumeTarget p s).plate = s.plate := by unfold resumeTarget; split <;> rfl
@[simp] theorem resumeTarget_prog (p : Plan) (s : State) : (resumeTarget p s).prog = s.prog := by unfold resumeTarget; split <;> rfl
@[simp] theorem resumeTarget_sampling (p : Plan) (s : State) : (resumeTarget p s).sampling = s.sampling := by unfold resumeTarget; split <;> rfl
@[simp] theorem resumeTarget_lastRun (p : Plan) (s : State) : (resumeTarget p s).lastRun = s.lastRun := by unfold resumeTarget; split <;> rfl
@[simp] theorem resumeTarget_runCounter (p : Plan) (s : State) : (resumeTarget p s).runCounter = s.runCounter := by unfold resumeTarget; split <;> rfl
@[simp] theorem resumeTarget_gap (p : Plan) (s : State) : (resumeTarget p s).gap = s.gap := by unfold resumeTarget; split <;> rfl
@[simp] theorem resumeTarget_catchSet (p : Plan) (s : State) : (resumeTarget p s).catchSet = s.catchSet := by unfold resumeTarget; split <;> rfl
@[simp] theorem resumeTarget_sparkOk (p : Plan) (s : State) : (resumeTarget p s).sparkOk = s.sparkOk := by unfold resumeTarget; split <;> rfl
@[simp] theorem resumeTarget_threadOk (p : Plan) (s : State) : (resumeTarget p s).threadOk = s.threadOk := by unfold resumeTarget; split <;> rfl
@[simp] theorem resumeTarget_holdIn (p : Plan) (s : State) : (resumeTarget p s).holdIn = s.holdIn := by unfold resumeTarget; split <;> rfl
@[simp] theorem resumeTarget_shortIn (p : Plan) (s : State) : (resumeTarget p s).shortIn = s.shortIn := by unfold resumeTarget; split <;> rfl
@[simp] theorem resumeTarget_motion (p : Plan) (s : State) : (resumeTarget p s).motion = s.motion := by unfold resumeTarget; split <;> rfl
@[simp] theorem resumeTarget_thread (p : Plan) (s : State) : (resumeTarget p s).thread = s.thread := by unfold resumeTarget; split <;> rfl
@[simp] theorem resumeTarget_cell (p : Plan) (s : State) : (resumeTarget p s).cell = s.cell := by unfold resumeTarget; split <;> rfl
@[simp] theorem resumeTarget_trace (p : Plan) (s : State) : (resumeTarget p s).trace = s.trace := by unfold resumeTarget; split <;> rfl
@[simp] theorem resumeTarget_freeCount (p : Plan) (s : State) : (resumeTarget p s).freeCount = s.freeCount := by unfold resumeTarget; split <;> rfl
@[simp] theorem resumeTarget_pending (p : Plan) (s : State) : (resumeTarget p s).pending = s.pending := by unfold resumeTarget; split <;> rfl
@[simp] theorem strand_resetLow (o : Occasion) (s : State) : (strand o s).resetLow = s.resetLow := by unfold strand; split <;> rfl
@[simp] theorem strand_device (o : Occasion) (s : State) : (strand o s).device = s.device := by unfold strand; split <;> rfl
@[simp] theorem strand_selfTest (o : Occasion) (s : State) : (strand o s).selfTest = s.selfTest := by unfold strand; split <;> rfl
@[simp] theorem strand_selfTestLeft (o : Occasion) (s : State) : (strand o s).selfTestLeft = s.selfTestLeft := by unfold strand; split <;> rfl
@[simp] theorem strand_cfg (o : Occasion) (s : State) : (strand o s).cfg = s.cfg := by unfold strand; split <;> rfl
@[simp] theorem strand_axisX (o : Occasion) (s : State) : (strand o s).axisX = s.axisX := by unfold strand; split <;> rfl
@[simp] theorem strand_axisY (o : Occasion) (s : State) : (strand o s).axisY = s.axisY := by unfold strand; split <;> rfl
@[simp] theorem strand_plate (o : Occasion) (s : State) : (strand o s).plate = s.plate := by unfold strand; split <;> rfl
@[simp] theorem strand_prog (o : Occasion) (s : State) : (strand o s).prog = s.prog := by unfold strand; split <;> rfl
@[simp] theorem strand_sampling (o : Occasion) (s : State) : (strand o s).sampling = s.sampling := by unfold strand; split <;> rfl
@[simp] theorem strand_lastRun (o : Occasion) (s : State) : (strand o s).lastRun = s.lastRun := by unfold strand; split <;> rfl
@[simp] theorem strand_runCounter (o : Occasion) (s : State) : (strand o s).runCounter = s.runCounter := by unfold strand; split <;> rfl
@[simp] theorem strand_planner (o : Occasion) (s : State) : (strand o s).planner = s.planner := by unfold strand; split <;> rfl
@[simp] theorem strand_catchSet (o : Occasion) (s : State) : (strand o s).catchSet = s.catchSet := by unfold strand; split <;> rfl
@[simp] theorem strand_sparkOk (o : Occasion) (s : State) : (strand o s).sparkOk = s.sparkOk := by unfold strand; split <;> rfl
@[simp] theorem strand_threadOk (o : Occasion) (s : State) : (strand o s).threadOk = s.threadOk := by unfold strand; split <;> rfl
@[simp] theorem strand_holdIn (o : Occasion) (s : State) : (strand o s).holdIn = s.holdIn := by unfold strand; split <;> rfl
@[simp] theorem strand_shortIn (o : Occasion) (s : State) : (strand o s).shortIn = s.shortIn := by unfold strand; split <;> rfl
@[simp] theorem strand_trace (o : Occasion) (s : State) : (strand o s).trace = s.trace := by unfold strand; split <;> rfl
@[simp] theorem strand_freeCount (o : Occasion) (s : State) : (strand o s).freeCount = s.freeCount := by unfold strand; split <;> rfl
@[simp] theorem strand_pending (o : Occasion) (s : State) : (strand o s).pending = s.pending := by unfold strand; split <;> rfl
@[simp] theorem planResume_resetLow (s : State) : (planResume s).resetLow = s.resetLow := by simp only [planResume]; (repeat' split) <;> first | rfl | simp
@[simp] theorem planResume_device (s : State) : (planResume s).device = s.device := by simp only [planResume]; (repeat' split) <;> first | rfl | simp
@[simp] theorem planResume_selfTest (s : State) : (planResume s).selfTest = s.selfTest := by simp only [planResume]; (repeat' split) <;> first | rfl | simp
@[simp] theorem planResume_selfTestLeft (s : State) : (planResume s).selfTestLeft = s.selfTestLeft := by simp only [planResume]; (repeat' split) <;> first | rfl | simp
@[simp] theorem planResume_cfg (s : State) : (planResume s).cfg = s.cfg := by simp only [planResume]; (repeat' split) <;> first | rfl | simp
@[simp] theorem planResume_axisX (s : State) : (planResume s).axisX = s.axisX := by simp only [planResume]; (repeat' split) <;> first | rfl | simp
@[simp] theorem planResume_axisY (s : State) : (planResume s).axisY = s.axisY := by simp only [planResume]; (repeat' split) <;> first | rfl | simp
@[simp] theorem planResume_plate (s : State) : (planResume s).plate = s.plate := by simp only [planResume]; (repeat' split) <;> first | rfl | simp
@[simp] theorem planResume_prog (s : State) : (planResume s).prog = s.prog := by simp only [planResume]; (repeat' split) <;> first | rfl | simp
@[simp] theorem planResume_sampling (s : State) : (planResume s).sampling = s.sampling := by simp only [planResume]; (repeat' split) <;> first | rfl | simp
@[simp] theorem planResume_lastRun (s : State) : (planResume s).lastRun = s.lastRun := by simp only [planResume]; (repeat' split) <;> first | rfl | simp
@[simp] theorem planResume_runCounter (s : State) : (planResume s).runCounter = s.runCounter := by simp only [planResume]; (repeat' split) <;> first | rfl | simp
@[simp] theorem planResume_catchSet (s : State) : (planResume s).catchSet = s.catchSet := by simp only [planResume]; (repeat' split) <;> first | rfl | simp
@[simp] theorem planResume_sparkOk (s : State) : (planResume s).sparkOk = s.sparkOk := by simp only [planResume]; (repeat' split) <;> first | rfl | simp
@[simp] theorem planResume_threadOk (s : State) : (planResume s).threadOk = s.threadOk := by simp only [planResume]; (repeat' split) <;> first | rfl | simp
@[simp] theorem planResume_holdIn (s : State) : (planResume s).holdIn = s.holdIn := by simp only [planResume]; (repeat' split) <;> first | rfl | simp
@[simp] theorem planResume_shortIn (s : State) : (planResume s).shortIn = s.shortIn := by simp only [planResume]; (repeat' split) <;> first | rfl | simp
@[simp] theorem planResume_trace (s : State) : (planResume s).trace = s.trace := by simp only [planResume]; (repeat' split) <;> first | rfl | simp
@[simp] theorem planResume_freeCount (s : State) : (planResume s).freeCount = s.freeCount := by simp only [planResume]; (repeat' split) <;> first | rfl | simp
@[simp] theorem planResume_pending (s : State) : (planResume s).pending = s.pending := by simp only [planResume]; (repeat' split) <;> first | rfl | simp
@[simp] theorem countFailure_resetLow (p : Place) (s : State) : (countFailure p s).resetLow = s.resetLow := by unfold countFailure; split <;> rfl
@[simp] theorem countFailure_device (p : Place) (s : State) : (countFailure p s).device = s.device := by unfold countFailure; split <;> rfl
@[simp] theorem countFailure_selfTest (p : Place) (s : State) : (countFailure p s).selfTest = s.selfTest := by unfold countFailure; split <;> rfl
@[simp] theorem countFailure_selfTestLeft (p : Place) (s : State) : (countFailure p s).selfTestLeft = s.selfTestLeft := by unfold countFailure; split <;> rfl
@[simp] theorem countFailure_cfg (p : Place) (s : State) : (countFailure p s).cfg = s.cfg := by unfold countFailure; split <;> rfl
@[simp] theorem countFailure_axisX (p : Place) (s : State) : (countFailure p s).axisX = s.axisX := by unfold countFailure; split <;> rfl
@[simp] theorem countFailure_axisY (p : Place) (s : State) : (countFailure p s).axisY = s.axisY := by unfold countFailure; split <;> rfl
@[simp] theorem countFailure_prog (p : Place) (s : State) : (countFailure p s).prog = s.prog := by unfold countFailure; split <;> rfl
@[simp] theorem countFailure_sampling (p : Place) (s : State) : (countFailure p s).sampling = s.sampling := by unfold countFailure; split <;> rfl
@[simp] theorem countFailure_run (p : Place) (s : State) : (countFailure p s).run = s.run := by unfold countFailure; split <;> rfl
@[simp] theorem countFailure_lastRun (p : Place) (s : State) : (countFailure p s).lastRun = s.lastRun := by unfold countFailure; split <;> rfl
@[simp] theorem countFailure_runCounter (p : Place) (s : State) : (countFailure p s).runCounter = s.runCounter := by unfold countFailure; split <;> rfl
@[simp] theorem countFailure_gap (p : Place) (s : State) : (countFailure p s).gap = s.gap := by unfold countFailure; split <;> rfl
@[simp] theorem countFailure_catchSet (p : Place) (s : State) : (countFailure p s).catchSet = s.catchSet := by unfold countFailure; split <;> rfl
@[simp] theorem countFailure_sparkOk (p : Place) (s : State) : (countFailure p s).sparkOk = s.sparkOk := by unfold countFailure; split <;> rfl
@[simp] theorem countFailure_threadOk (p : Place) (s : State) : (countFailure p s).threadOk = s.threadOk := by unfold countFailure; split <;> rfl
@[simp] theorem countFailure_holdIn (p : Place) (s : State) : (countFailure p s).holdIn = s.holdIn := by unfold countFailure; split <;> rfl
@[simp] theorem countFailure_shortIn (p : Place) (s : State) : (countFailure p s).shortIn = s.shortIn := by unfold countFailure; split <;> rfl
@[simp] theorem countFailure_motion (p : Place) (s : State) : (countFailure p s).motion = s.motion := by unfold countFailure; split <;> rfl
@[simp] theorem countFailure_thread (p : Place) (s : State) : (countFailure p s).thread = s.thread := by unfold countFailure; split <;> rfl
@[simp] theorem countFailure_cell (p : Place) (s : State) : (countFailure p s).cell = s.cell := by unfold countFailure; split <;> rfl
@[simp] theorem countFailure_trace (p : Place) (s : State) : (countFailure p s).trace = s.trace := by unfold countFailure; split <;> rfl
@[simp] theorem countFailure_freeCount (p : Place) (s : State) : (countFailure p s).freeCount = s.freeCount := by unfold countFailure; split <;> rfl
@[simp] theorem countFailure_pending (p : Place) (s : State) : (countFailure p s).pending = s.pending := by unfold countFailure; split <;> rfl
@[simp] theorem replan_resetLow (u : Purpose) (s : State) : (replan u s).resetLow = s.resetLow := by simp only [replan]; (repeat' split) <;> first | rfl | simp
@[simp] theorem replan_device (u : Purpose) (s : State) : (replan u s).device = s.device := by simp only [replan]; (repeat' split) <;> first | rfl | simp
@[simp] theorem replan_selfTest (u : Purpose) (s : State) : (replan u s).selfTest = s.selfTest := by simp only [replan]; (repeat' split) <;> first | rfl | simp
@[simp] theorem replan_selfTestLeft (u : Purpose) (s : State) : (replan u s).selfTestLeft = s.selfTestLeft := by simp only [replan]; (repeat' split) <;> first | rfl | simp
@[simp] theorem replan_cfg (u : Purpose) (s : State) : (replan u s).cfg = s.cfg := by simp only [replan]; (repeat' split) <;> first | rfl | simp
@[simp] theorem replan_axisX (u : Purpose) (s : State) : (replan u s).axisX = s.axisX := by simp only [replan]; (repeat' split) <;> first | rfl | simp
@[simp] theorem replan_axisY (u : Purpose) (s : State) : (replan u s).axisY = s.axisY := by simp only [replan]; (repeat' split) <;> first | rfl | simp
@[simp] theorem replan_plate (u : Purpose) (s : State) : (replan u s).plate = s.plate := by simp only [replan]; (repeat' split) <;> first | rfl | simp
@[simp] theorem replan_prog (u : Purpose) (s : State) : (replan u s).prog = s.prog := by simp only [replan]; (repeat' split) <;> first | rfl | simp
@[simp] theorem replan_sampling (u : Purpose) (s : State) : (replan u s).sampling = s.sampling := by simp only [replan]; (repeat' split) <;> first | rfl | simp
@[simp] theorem replan_lastRun (u : Purpose) (s : State) : (replan u s).lastRun = s.lastRun := by simp only [replan]; (repeat' split) <;> first | rfl | simp
@[simp] theorem replan_runCounter (u : Purpose) (s : State) : (replan u s).runCounter = s.runCounter := by simp only [replan]; (repeat' split) <;> first | rfl | simp
@[simp] theorem replan_catchSet (u : Purpose) (s : State) : (replan u s).catchSet = s.catchSet := by simp only [replan]; (repeat' split) <;> first | rfl | simp
@[simp] theorem replan_sparkOk (u : Purpose) (s : State) : (replan u s).sparkOk = s.sparkOk := by simp only [replan]; (repeat' split) <;> first | rfl | simp
@[simp] theorem replan_threadOk (u : Purpose) (s : State) : (replan u s).threadOk = s.threadOk := by simp only [replan]; (repeat' split) <;> first | rfl | simp
@[simp] theorem replan_holdIn (u : Purpose) (s : State) : (replan u s).holdIn = s.holdIn := by simp only [replan]; (repeat' split) <;> first | rfl | simp
@[simp] theorem replan_shortIn (u : Purpose) (s : State) : (replan u s).shortIn = s.shortIn := by simp only [replan]; (repeat' split) <;> first | rfl | simp
@[simp] theorem replan_trace (u : Purpose) (s : State) : (replan u s).trace = s.trace := by simp only [replan]; (repeat' split) <;> first | rfl | simp
@[simp] theorem replan_freeCount (u : Purpose) (s : State) : (replan u s).freeCount = s.freeCount := by simp only [replan]; (repeat' split) <;> first | rfl | simp
@[simp] theorem replan_pending (u : Purpose) (s : State) : (replan u s).pending = s.pending := by simp only [replan]; (repeat' split) <;> first | rfl | simp
@[simp] theorem resumeRun_resetLow (t : Target) (s : State) : (resumeRun t s).resetLow = s.resetLow := by simp only [resumeRun]; (repeat' split) <;> first | rfl | simp
@[simp] theorem resumeRun_device (t : Target) (s : State) : (resumeRun t s).device = s.device := by simp only [resumeRun]; (repeat' split) <;> first | rfl | simp
@[simp] theorem resumeRun_selfTest (t : Target) (s : State) : (resumeRun t s).selfTest = s.selfTest := by simp only [resumeRun]; (repeat' split) <;> first | rfl | simp
@[simp] theorem resumeRun_selfTestLeft (t : Target) (s : State) : (resumeRun t s).selfTestLeft = s.selfTestLeft := by simp only [resumeRun]; (repeat' split) <;> first | rfl | simp
@[simp] theorem resumeRun_cfg (t : Target) (s : State) : (resumeRun t s).cfg = s.cfg := by simp only [resumeRun]; (repeat' split) <;> first | rfl | simp
@[simp] theorem resumeRun_axisX (t : Target) (s : State) : (resumeRun t s).axisX = s.axisX := by simp only [resumeRun]; (repeat' split) <;> first | rfl | simp
@[simp] theorem resumeRun_axisY (t : Target) (s : State) : (resumeRun t s).axisY = s.axisY := by simp only [resumeRun]; (repeat' split) <;> first | rfl | simp
@[simp] theorem resumeRun_plate (t : Target) (s : State) : (resumeRun t s).plate = s.plate := by simp only [resumeRun]; (repeat' split) <;> first | rfl | simp
@[simp] theorem resumeRun_lastRun (t : Target) (s : State) : (resumeRun t s).lastRun = s.lastRun := by simp only [resumeRun]; (repeat' split) <;> first | rfl | simp
@[simp] theorem resumeRun_runCounter (t : Target) (s : State) : (resumeRun t s).runCounter = s.runCounter := by simp only [resumeRun]; (repeat' split) <;> first | rfl | simp
@[simp] theorem resumeRun_catchSet (t : Target) (s : State) : (resumeRun t s).catchSet = s.catchSet := by simp only [resumeRun]; (repeat' split) <;> first | rfl | simp
@[simp] theorem resumeRun_holdIn (t : Target) (s : State) : (resumeRun t s).holdIn = s.holdIn := by simp only [resumeRun]; (repeat' split) <;> first | rfl | simp
@[simp] theorem resumeRun_shortIn (t : Target) (s : State) : (resumeRun t s).shortIn = s.shortIn := by simp only [resumeRun]; (repeat' split) <;> first | rfl | simp
@[simp] theorem resumeRun_trace (t : Target) (s : State) : (resumeRun t s).trace = s.trace := by simp only [resumeRun]; (repeat' split) <;> first | rfl | simp
@[simp] theorem resumeRun_pending (t : Target) (s : State) : (resumeRun t s).pending = s.pending := by simp only [resumeRun]; (repeat' split) <;> first | rfl | simp

end Sys2Proof.Machine
end

