-- ==== Sys2Proof/Laws/Sample.lean ====
section
/-! SUPPORT. What a sample leaves alone, how a walk goes on (R43, R45), refused openings (R62), the remaining distance
that a sample keeps (R72), the last valid levels of a channel (R27), the mismatch counter within its limit (R103). -/

namespace Sys2Proof.Machine

/-! ### The parts of a sample -/

theorem keepRemaining_eq (s : State) :
    keepRemaining s = { s with run := s.run.map (fun r => { r with sampledRem := some (remaining r s.prog) }) } := rfl

theorem leaveHole_eq (p : Path) (res : SampleResult) (s : State) :
    ∃ b, leaveHole p res s = { s with run := s.run.map (fun r => { r with leftHole := r.leftHole || b }) } := ⟨_, rfl⟩

/-- Marking a lead-in changes the hole table at most. -/
theorem markLeadIn_eq (p : Path) (ph : Phase) (b : Bool) (s : State) :
    ∃ holes, markLeadIn p ph b s = { s with plate := { s.plate with holes := holes } } := by
  unfold markLeadIn
  split
  · split
    · exact ⟨_, rfl⟩
    · exact ⟨s.plate.holes, rfl⟩
  · exact ⟨s.plate.holes, rfl⟩
  · exact ⟨s.plate.holes, rfl⟩

/-- Offering a record changes the FIFO, the dropped count and pending events at most. -/
theorem offerRecord_eq (e : TraceRecord) (s : State) :
    ∃ fifo dropped m t c, offerRecord e s = { s with
      trace := { s.trace with fifo := fifo, dropped := dropped }, motion := m, thread := t, cell := c } := by
  simp only [offerRecord, post]
  (repeat' split) <;> exact ⟨_, _, _, _, _, rfl⟩

/-- The trace part of a sample changes the trace, the short-since-record mark and pending events at most. -/
theorem traceSample_eq (ph : Phase) (s : State) :
    ∃ tr b m t c, traceSample ph s = { s with
      trace := tr, gap := { s.gap with shortSince := b }, motion := m, thread := t, cell := c } := by
  simp only [traceSample]
  split
  · exact ⟨s.trace, s.gap.shortSince, s.motion, s.thread, s.cell, rfl⟩
  · split
    · obtain ⟨_, _, _, _, _, h⟩ := offerRecord_eq (traceRecordOf s _ ph) _
      rw [h]
      exact ⟨_, _, _, _, _, rfl⟩
    · exact ⟨_, s.gap.shortSince, s.motion, s.thread, s.cell, rfl⟩

/-! ### Stepping along a path (R43, R45) -/

/-- A walk ends where the tests of a segment stop. -/
theorem walk_of_stop {legs : List Leg} {wraps : Bool} {tol : Nat} {p : Point} {i : Nat} {x : Int} (k : Nat)
    (h : stepTest legs wraps tol p i = .stop x) :
    walk legs wraps tol p k i = ⟨i, x, ((legAt legs i).project p).dev, false⟩ := by
  cases k <;> rw [walk, h]

/-- A walk with a step left goes on from the segment it moves to. -/
theorem walk_of_move {legs : List Leg} {wraps : Bool} {tol : Nat} {p : Point} {i j : Nat} (k : Nat)
    (h : stepTest legs wraps tol p i = .to j) : walk legs wraps tol p (k + 1) i = walk legs wraps tol p k j := by
  rw [walk, h]

/-- A walk with no step left stays, and is capped (R45). -/
theorem walk_of_capped {legs : List Leg} {wraps : Bool} {tol : Nat} {p : Point} {i j : Nat}
    (h : stepTest legs wraps tol p i = .to j) :
    walk legs wraps tol p 0 i =
      ⟨i, ((legAt legs i).project p).along, ((legAt legs i).project p).dev, true⟩ := by
  rw [walk, h]

/-! ### Refused openings (R62) -/

/-- A failing check of RUN_OPEN gives its status and changes nothing. -/
theorem runOpen_of_error {q : RunOpenReq} {s : State} {st : Status} (h : checkOpen q s = .error st) :
    runOpen q s = refuse st s := by
  simp [runOpen, h]

/-! ### The remaining distance of WARN_CLEAR (R72) -/

@[simp] theorem usedRemaining_of_some {s : State} {run : Run} {d : Int} (h : run.sampledRem = some d) :
    usedRemaining s run = d := by
  simp [usedRemaining, h]

@[simp] theorem usedRemaining_of_none {s : State} {run : Run} (h : run.sampledRem = none) :
    usedRemaining s run = remaining run s.prog := by
  simp [usedRemaining, h]

/-! ### The last valid levels (R27) -/

@[simp] theorem seen_lastA (c : Channel) (a b : Option Bool) : (c.seen a b).lastA = (a <|> c.lastA) := rfl
@[simp] theorem seen_lastB (c : Channel) (a b : Option Bool) : (c.seen a b).lastB = (b <|> c.lastB) := rfl
@[simp] theorem seen_quad (c : Channel) (a b : Option Bool) : (c.seen a b).quad = c.quad := rfl
@[simp] theorem seen_count (c : Channel) (a b : Option Bool) : (c.seen a b).count = c.count := rfl
@[simp] theorem seen_fault (c : Channel) (a b : Option Bool) : (c.seen a b).fault = c.fault := rfl

theorem pairLevel_of_valid (v : Bool) (last : Option Bool) (s : State) : pairLevel (some v) last s = (v, s) := rfl

theorem pairLevel_of_last (v : Bool) (s : State) : pairLevel none (some v) s = (v, s) := rfl

/-! ### The mismatch counter (R103) -/

@[simp] theorem arise_mismatch (c : Causes) (s : State) : (arise c s).gap.mismatch = s.gap.mismatch := by
  simp only [arise, haltRun, setPhase, abandonSample, ineligible, State.modGap]
  (repeat' split) <;> simp_all [post, Phase.judged]

/-- Judging a window keeps the counter within its limit. -/
theorem judgeWindow_mismatch_le (w : WindowRecord) (s : State) (h : s.gap.mismatch ≤ s.cfg.mismatchLimit) :
    (judgeWindow w s).gap.mismatch ≤ s.cfg.mismatchLimit := by
  unfold judgeWindow clearMismatch State.modGap
  dsimp only
  (repeat' split) <;> simp_all

end Sys2Proof.Machine
end

