-- ==== Sys2Proof/Laws/Serve.lean ====
section
/-! SUPPORT. What serving a request can do, once for all requests. -/

namespace Sys2Proof.Safety

open Sys2Proof.Machine

theorem Serves.receives {l : Link} {k : Req} {s : State} (h : Serves l k s) : s.receives l = true := h.1

/-- A link that receives is not under reset. -/
theorem Serves.resetLow {l : Link} {k : Req} {s : State} (h : Serves l k s) : s.resetLow = false := by
  have := h.1
  simp [State.receives] at this
  exact this.1

/-- Only DEVICE_STATUS is answered by its block while the device is not READY. -/
theorem Serves.ready {l : Link} {k : Req} {s : State} (h : Serves l k s) (hk : k ≠ .deviceStatus) :
    s.device = .ready := by
  have := h.2.2.2
  unfold deviceBar at this
  split at this
  · assumption
  · simp [hk] at this
  · simp [hk] at this

end Sys2Proof.Safety

namespace Sys2Proof.Machine

open Sys2Proof.Safety

/-- A served request with a body that reads well is answered by its block. -/
theorem serve_of_serves {β : Type} {l : Link} {k : Req} {s : State} (tag : Byte) (body : List Byte)
    (parsed : Option β) (b : β) (act : β → State → Answer) (h : Serves l k s) (hb : parsed = some b) :
    serve l k tag body parsed act s = finish l k.code tag (act b s) := by
  obtain ⟨h1, h2, h3, h4⟩ := h
  subst hb
  simp [serve, answerOf, h1, h2, h3, h4]

/-- While a request is in progress a good frame is only recorded. -/
theorem serve_of_busy {β : Type} {l : Link} {k : Req} {s : State} (tag : Byte) (body : List Byte)
    (parsed : Option β) (act : β → State → Answer) (h : s.receives l = true) (hb : (s.link l).busy.isSome = true) :
    serve l k tag body parsed act s = recordError l .overrun (some k.code) (some tag) s := by
  simp [serve, h, hb]

/-- A body of a wrong length is answered with RANGE. -/
theorem serve_of_unreadable {β : Type} {l : Link} {k : Req} {s : State} (tag : Byte) (body : List Byte)
    (parsed : Option β) (act : β → State → Answer) (h : s.receives l = true) (hb : (s.link l).busy = none)
    (hk : k.servedOn l = true) (hp : parsed = none) :
    serve l k tag body parsed act s = replied l k tag (refusalBody k s body .range) s := by
  simp [serve, h, hb, answerOf, hk, hp, finish, replied, replyKind]

/-- In STARTING and FAILED the device state answers. -/
theorem serve_of_barred {β : Type} {l : Link} {k : Req} {s : State} (tag : Byte) (body : List Byte)
    (parsed : Option β) (act : β → State → Answer) (st : Status) (h : s.receives l = true)
    (hb : (s.link l).busy = none) (hk : k.servedOn l = true) (hp : parsed.isSome = true)
    (hd : deviceBar k s.device = some st) :
    serve l k tag body parsed act s = replied l k tag (refusalBody k s body st) s := by
  obtain ⟨b, rfl⟩ := Option.isSome_iff_exists.mp hp
  simp [serve, h, hb, answerOf, hk, hd, finish, replied, replyKind]

theorem finish_reply (l : Link) (k : Req) (tag : Byte) (s : State) (body : List Byte) :
    finish l k.code tag (s, some body) = replied l k tag body s := rfl

@[simp] theorem finish_refuse (l : Link) (k : Req) (tag : Byte) (st : Status) (s : State) :
    finish l k.code tag (refuse st s) = replied l k tag [st.code] s := rfl

@[simp] theorem finish_reading (l : Link) (k : Req) (tag : Byte) (body : List Byte) (s : State) :
    finish l k.code tag (reading body s) = replied l k tag body s := rfl

@[simp] theorem finish_accepted (l : Link) (k : Req) (tag : Byte) (f : State → List Byte) (s : State) :
    finish l k.code tag (accepted s f) = replied l k tag (f (drive s)) (drive s) := rfl

end Sys2Proof.Machine
end

