-- ==== Sys2Proof/Tests/Slice0.lean ====
section
/-! SUPPORT. Tests: ill-formed commands that the check refuses, a few worked values of the manual, and for every
statement with hypotheses a state and operands that meet them. -/


namespace Sys2Proof.Tests

open Sys2Proof.Machine Sys2Proof.Safety

/-! ### Small states -/

/-- The state of a next outcome. -/
def after (o : Out) (s : State) : State :=
  match o with
  | .next t => t
  | .fault _ | .refused _ => s

/-- After a self-test that passed. -/
def ready : State := { State.reset with device := .ready, selfTest := .pass, selfTestLeft := 0 }

/-- While RESET_IN is low. -/
def inReset : State := { State.reset with resetLow := true }

/-- A square of side 1000 with one tab on its third side. -/
def square : Contour :=
  ⟨.tabbed, 100, [⟨0, 0⟩, ⟨1000, 0⟩, ⟨1000, 1000⟩, ⟨0, 1000⟩], [⟨⟨2, 400⟩, ⟨2, 600⟩⟩], none, none⟩

/-- A hole below the square, its lead-in straight up. -/
def pin : Hole := ⟨63, .outside, .both, ⟨500, -300⟩, [⟨500, 0⟩], none, none⟩

def loadedPlate : Plate :=
  { Plate.reset with state := .loading, ident := some 7302, contours := [(63, square)], holes := [(127, pin)], entryTol := 100 }

/-- A loaded map, positions not suspect, no wire in the plate. -/
def loaded : State :=
  { ready with
    plate := loadedPlate
    axisX := { Channel.reset with suspect := false }
    axisY := { Channel.reset with suspect := false }
    planner := { Planner.reset with wire := .none } }

def validating : State := { loaded with plate := { loadedPlate with state := .validating } }

def armed : State := { loaded with plate := loadedPlate.passed }

def squareLive : Contour := { square with geom := some square.computed, live := some ContourLive.start }

def pinLive : Hole := { pin with geom := some (pin.computed [(63, square)]), live := some HoleLive.start }

/-- A run on the square, in a phase. -/
def runIn (p : Phase) : Run :=
  ⟨1, 63, 127, 500, .first, .fwd, 7, p, 0, 1900, 1850, false, false, false, false, none, none, none, 0, 0, 0, none⟩

/-- The plate ACTIVE with that run, its path, the Progress Unit's distances and the wire. -/
def running (run : Run) (path : Path) (wire : Wire) : State :=
  { armed with
    plate := { loadedPlate.passed with state := .active }
    run := some run
    runCounter := 1
    prog := { Progress.idle with timer := some 1000, path := path, sOld := some 500 }
    planner := { Planner.reset with wire := wire, counter := 1 } }

def cutting : State := running (runIn .cutting) .loop (.hole 127)

def halted : State :=
  running { runIn .halted with halt := some ⟨{ Causes.none with pinch := true }, .cutting⟩ } .loop (.hole 127)

/-- A START target at the hole, its attempt begun. -/
def awaiting : State :=
  let s := running (runIn .awaitThread) .none .none
  { s with planner := { s.planner with target := some ⟨1, .start, .hole 127, 63, ⟨500, -300⟩, true⟩ } }

/-- A break on the loop, with its plan. -/
def broken : State :=
  let plan : Plan := ⟨.kerf, some 0, ⟨500, 0⟩, 300, ⟨800, 0⟩, false⟩
  let s := running { runIn .broken with brk := some ⟨.cutting, .loop, ⟨800, 0⟩, 300, 300⟩, plan := some plan } .loop .none
  { s with
    prog := { s.prog with r := 300, a := 300 }
    planner := { s.planner with target := some ⟨255, .resume, .kerf, 63, ⟨500, 0⟩, true⟩, kerf := some 0 } }

/-- The plate with the square in another state. -/
def withLive (v : ContourLive) (s : State) : State :=
  { s with plate := { s.plate with contours := [(63, { squareLive with live := some v })] } }

/-! ### Helpers of the witnesses -/

theorem of_none {α : Type} {o : Option α} {P : α → Prop} (h : o = none) : ∀ v, o = some v → P v := by
  intro v hv
  rw [h] at hv
  cases hv

theorem of_some {α : Type} {o : Option α} {w : α} {P : α → Prop} (h : o = some w) (hw : P w) : ∀ v, o = some v → P v := by
  intro v hv
  rw [h] at hv
  cases hv
  exact hw

theorem serves_of {l : Link} {k : Req} {s : State}
    (h : (s.receives l && (s.link l).busy.isNone && k.servedOn l && (deviceBar k s.device).isNone) = true) :
    Serves l k s := by
  simp only [Bool.and_eq_true, Option.isNone_iff_eq_none] at h
  exact ⟨h.1.1.1, h.1.1.2, h.1.2, h.2⟩

theorem coherent_of {s : State} {run : Run} (h : s.run = some run) (hh : run.halt = none) (hp : run.phase ≠ .halted)
    (ht : s.planner.target.isSome = true) (hw : run.phase = .awaitThread ∨ run.phase = .broken)
    (hs : s.sampling = .none) : RunCoherent s := by
  refine ⟨fun r hr => ?_, ⟨fun _ => ⟨run, h, hw⟩, fun _ => ht⟩, fun p k b hb => ?_⟩
  · rw [h] at hr
    cases hr
    simp [hh, hp]
  · rw [hs] at hb
    cases hb

/-! ### Ill-formed commands -/

theorem test_bodyFits_refuses_long_body : (Instr.plateBegin 0 (List.replicate 241 0)).bodyFits = false := by
  decide +kernel

theorem test_linkServes_refuses_gapRead_on_thread_link : (Instr.gapRead .thread 0 []).linkServes = false := by decide

theorem test_kindUnknown_refuses_served_kind : (Instr.unknownKind .motion 0x10 0).kindUnknown = false := by decide

theorem test_tagAfterKind_refuses_tag_alone : (Instr.frameGapTimeout .cell none (some 1)).tagAfterKind = false := by
  decide

theorem test_wf_refuses_each :
    (Instr.plateBegin 0 (List.replicate 241 0)).wf = false ∧ (Instr.gapRead .thread 0 []).wf = false ∧
      (Instr.unknownKind .motion 0x10 0).wf = false ∧ (Instr.frameGapTimeout .cell none (some 1)).wf = false := by
  decide +kernel

theorem test_wf_takes_plateBegin : (Instr.plateBegin 0 [1, 0, 0, 0]).wf = true := by decide

/-! ### Values of the manual -/

/-- R149: the check of the nine bytes 31 to 39 is 0x29B1. -/
theorem test_crc_of_123456789 : crc [0x31, 0x32, 0x33, 0x34, 0x35, 0x36, 0x37, 0x38, 0x39] = 0x29B1 := by
  decide +kernel

theorem test_isqrt : isqrt 0 = 0 ∧ isqrt 99 = 9 ∧ isqrt 100 = 10 := by decide

theorem test_roundDiv_halves_away : roundDiv 3 2 = 2 ∧ roundDiv (-3) 2 = -2 ∧ roundDiv (-1) 3 = 0 := by decide

theorem test_signed_fields : intField 3 (-2) = [0xFE, 0xFF, 0xFF] ∧ leInt [0xFE, 0xFF, 0xFF] = -2 := by decide

theorem test_square_validates : mapErrors validating.plate = [] ∧ square.computed.loopLen = 4000 ∧
    square.computed.tabs = [⟨2400, 2600⟩] ∧ (pin.computed [(63, square)]).entry = 500 := by decide

theorem test_first_run_stops_at_tab :
    computeLimits .first 500 .fwd squareLive false 50 0 = ⟨1900, 1850, false, false, 0⟩ := by decide

theorem test_credit_wraps :
    creditList 500 .fwd 4000 [] 3400 4000 = [⟨0, 500⟩, ⟨3900, 4000⟩] ∧
      creditList 500 .rev 4000 [] 0 600 = [⟨0, 500⟩, ⟨3900, 4000⟩] := by decide

theorem test_quadrature_counts :
    (after (exec (.quadratureStep .x (some true) (some false)) { ready with axisX := { Channel.reset with quad := some (false, false) } })
      ready).axisX.count = 1 := by decide

theorem test_runOpen_opens :
    (after (exec (.runOpen 9 [63, 127, 0, 0, 7]) armed) armed).run = some (runIn .awaitThread) := by decide

theorem test_step_takes_front : step { ready with pending := [.deviceReset] } = .next (deviceReset ready) := rfl

/-! ### Witnesses: queue, clock, reset, invariants -/

theorem witness_StepRunsFrontCommand :
    ({ ready with pending := [.sparkInPulse, .breakIn] } : State).pending = .sparkInPulse :: [.breakIn] := rfl

/-- Cutting, its sample timer at its last ref count, a settle window open. -/
def lastCount : State :=
  { cutting with prog := { cutting.prog with timer := some 1 }, gap := { cutting.gap with settle := some 1 } }

/-- A frame of which three bytes have arrived, and the silence since. -/
def silence (n : Nat) : State :=
  { ready with cell := { ready.cell with rx := .frame, part := [0xC3, 2, 0x34], gapTime := n } }

theorem test_silence_counts_then_discards :
    ((after (step (silence 499)) ready).cell = { (silence 499).cell with gapTime := 500 } ∧
      (after (step (silence 499)) ready).pending = []) ∧
    (after (step (silence 500)) ready).pending = [.frameGapTimeout .cell (some 0x34) none] := by decide

theorem witness_EmptyQueueStepIsOneRefCount :
    (ready.pending = [] ∧ ready.resetLow = false) ∧ (inReset.pending = [] ∧ inReset.resetLow = true) ∧
      ((ready.link .cell).line = [] ∧ (silence 500).cell.rx = .frame ∧ started (silence 500).cell.line = false) ∧
      (lastCount.pending = [] ∧ lastCount.resetLow = false ∧ lastCount.prog.timer.any (fun n => decide (n ≤ 1)) = true ∧
        lastCount.sampling = .none ∧ lastCount.run.any (fun r => r.phase.tracking) = true) ∧
      (State.reset.device = .starting ∧ ({ State.reset with selfTestLeft := 1 } : State).selfTestLeft ≤ 1) := by
  decide

theorem test_sample_starts_and_settle_ends :
    (after (step lastCount) lastCount).pending = [.settleEnd, .progressSample] ∧
      (after (step lastCount) lastCount).sampling = .inProgress .cutting .first false := by decide

theorem witness_ResetEndSelfTestAndHoldComplete :
    inReset.resetLow = true ∧ (State.reset.resetLow = false ∧ State.reset.device = .starting) ∧
      (ready.resetLow = false ∧ ready.holdIn = !true) ∧
      (({ ready with holdIn := true } : State).resetLow = false ∧
        ({ ready with holdIn := true } : State).holdIn = !false) := by decide

theorem armed_driven : Driven armed := by
  refine ⟨by decide, by decide, fun l => ?_⟩
  cases l <;> decide

theorem witness_EveryStepDrivesOutputs : Driven armed ∧ step armed = .next (tick armed) := ⟨armed_driven, rfl⟩

theorem armed_canonical : Canonical armed := by
  refine ⟨by decide, by decide, fun l => ?_⟩
  cases l <;> decide

theorem witness_EveryStepKeepsTablesCanonical : Canonical armed ∧ step armed = .next (tick armed) :=
  ⟨armed_canonical, rfl⟩

theorem witness_VertexPoolNeverOverflows : PoolHolds armed ∧ step armed = .next (tick armed) :=
  ⟨⟨by decide, by decide, by decide⟩, rfl⟩

theorem witness_EveryStepKeepsListBounds : WithinSizes armed ∧ step armed = .next (tick armed) := by
  refine ⟨⟨by decide, by decide, by decide, by decide, fun _ => rfl, fun l => ?_⟩, rfl⟩
  cases l <;> decide

theorem witness_EveryStepKeepsRunCoherent : RunCoherent awaiting ∧ step awaiting = .next (tick awaiting) :=
  ⟨coherent_of (run := runIn .awaitThread) rfl rfl (by decide) rfl (.inl rfl) rfl, rfl⟩

/-! ### Witnesses: bytes -/

theorem witness_RequestBodiesAndConfigReadBack :
    (let q : RunOpenReq := ⟨255, 255, 255, 255, 255⟩
     q.contour < 256 ∧ q.hole < 256 ∧ q.kind < 256 ∧ q.dir < 256 ∧ q.setting < 256) ∧
    (let q : ThreadDoneReq := ⟨255, 255⟩; q.number < 256 ∧ q.result < 256) ∧
    (let q : VertexReadReq := ⟨255, 65535, 255⟩; q.contour < 256 ∧ q.first < 65536 ∧ q.count < 256) ∧
    (let q : ContourLoadReq := ⟨255, 255, 65535, [⟨⟨65535, 4294967295⟩, ⟨65535, 4294967295⟩⟩]⟩
     q.index < 256 ∧ q.cls < 256 ∧ q.width < 65536 ∧ q.tabs.length < 256 ∧
       ∀ t ∈ q.tabs, t.start.seg < 65536 ∧ t.start.off < 4294967296 ∧ t.stop.seg < 65536 ∧
         t.stop.off < 4294967296) ∧
    (let q : VertexAppendReq := ⟨255, [⟨-8388608, 8388607⟩, ⟨8388607, -8388608⟩]⟩
     q.contour < 256 ∧ q.points.length < 256 ∧
       ∀ p ∈ q.points, -8388608 ≤ p.x ∧ p.x ≤ 8388607 ∧ -8388608 ≤ p.y ∧ p.y ≤ 8388607) ∧
    (let q : HoleLoadReq := ⟨255, 255, 255, 255, ⟨-8388608, 8388607⟩, [⟨8388607, -8388608⟩]⟩
     q.index < 256 ∧ q.owner < 256 ∧ q.loc < 256 ∧ q.dirs < 256 ∧ q.leadIn.length < 256 ∧
       -8388608 ≤ q.centre.x ∧ q.centre.x ≤ 8388607 ∧ -8388608 ≤ q.centre.y ∧ q.centre.y ≤ 8388607 ∧
       ∀ p ∈ q.leadIn, -8388608 ≤ p.x ∧ p.x ≤ 8388607 ∧ -8388608 ≤ p.y ∧ p.y ≤ 8388607) ∧
    parseConfig (List.replicate 64 0xFF) = some (clampedConfig (List.replicate 64 0xFF)) ∧
    parseConfig (List.replicate 64 0) = some (clampedConfig (List.replicate 64 0)) := by
  decide

theorem witness_FramesAreReceivedAsSentOrDiscarded :
    ((LinkState.reset 0).rx = .hunt ∧ (List.replicate 240 (0 : Byte)).length ≤ 240) ∧
    ((frameOf 0x34 1 []).take 4 = [0xC3, 0, 0x34, 1] ∧ (frameOf 0x34 1 []).length = 6 ∧
      (frameOf 0x34 1 []).drop 4 ≠ [0, 0]) ∧
    (240 < (241#8).toNat ∧ (0xC2#8) ≠ 0xC3 ∧ { LinkState.reset 0 with rx := .brk }.rx = .brk) := by
  decide +kernel

theorem test_bad_check_and_bad_length :
    (feed .cell (LinkState.reset 0) (frameOf 0x34 1 [] ++ [0])).2 = [.plateArm 1 []] ∧
      (feed .cell (LinkState.reset 0) [0, 0xC3, 0, 0x34, 1, 0, 0]).2 = [.frameCheckError .cell 0x34 1] ∧
      (feed .cell (LinkState.reset 0) [0xC3, 241]).2 = [.frameLengthError .cell] := by decide +kernel

/-! ### Witnesses: every request -/

def busyCell : State := after (exec (.configRead 1 []) ready) ready

theorem witness_RequestsAnsweredBeforeTheBlocks :
    (busyCell.receives .cell = true ∧ (busyCell.link .cell).busy.isSome = true) ∧
    (Req.plateBegin.servedOn .cell = true ∧ ready.receives .cell = true ∧ (ready.link .cell).busy = none ∧
      Req.plateBegin.lengthOk [0, 0, 0] = false ∧ Req.contourLoad.lengthOk [0, 0, 0, 0, 1] = false) ∧
    (Req.plateBegin.lengthOk [0, 0, 0, 0] = true ∧ Req.plateBegin ≠ .deviceStatus) ∧
    (State.reset.receives .cell = true ∧ (State.reset.link .cell).busy = none ∧ State.reset.device = .starting) ∧
    (let s : State := { State.reset with device := .failed }
     s.receives .cell = true ∧ (s.link .cell).busy = none ∧ s.device = .failed) := by decide

/-! ### Witnesses: links -/

theorem witness_AttentionReadAndLinkErrorsReportAndClear :
    (∀ l, Serves l .attentionRead ready) ∧ ∀ l, Serves l .linkErrors ready := by
  constructor <;> intro l <;> cases l <;> exact serves_of (by decide)

theorem witness_EventMaskAndEventClear :
    (∀ l, Serves l .eventMask ready) ∧ (∀ l, Serves l .eventClear ready) ∧ ready.resetLow = false := by
  refine ⟨fun l => ?_, fun l => ?_, rfl⟩ <;> cases l <;> exact serves_of (by decide)

theorem witness_PostingFollowsTheRouting :
    ((routed .thread).getLsbD (Event.warn 1 0).bit = false) ∧
    ((routed .motion).getLsbD (Event.warn 1 0).bit = true ∧ ∀ m, Event.warn 1 0 ≠ .contourState m) ∧
    ((routed .cell).getLsbD (Event.contourState [(63, .held)]).bit = true) ∧
    Table.get? ((post (.contourState [(0, .free)]) ready).link .cell).raw 7 = some (.contourState [(0, .free)]) := by
  refine ⟨by decide, ⟨by decide, fun m h => by cases h⟩, by decide, by decide⟩

theorem witness_ReadsAnswerAndChangeNothing :
    (State.reset.receives .motion = true ∧ (State.reset.link .motion).busy = none) ∧
    (Serves .motion .runRead cutting ∧ cutting.run = some (runIn .cutting)) ∧
    (∃ r, Serves .motion .runRead (endRun (runIn .cutting) cutting) ∧
      (endRun (runIn .cutting) cutting).lastRun = some r) ∧
    Serves .motion .planRead cutting ∧ (Serves .motion .gapRead ready ∧ Serves .cell .gapRead ready) ∧
    Serves .cell .plateStatus ready ∧
    (Serves .cell .vertexRead armed ∧ armed.plate.state ≠ .empty ∧ armed.contour? 63 = some squareLive ∧
      3 < squareLive.vertices.length) ∧
    (Serves .cell .contourRead armed ∧ (63#8).toNat ≤ 63) ∧
    (Serves .cell .holeRead armed ∧ (127#8).toNat ≤ 127 ∧ armed.hole? 127 = some pinLive) := by
  refine ⟨by decide, ⟨serves_of (by decide), rfl⟩, ⟨_, serves_of (by decide), rfl⟩, serves_of (by decide),
    ⟨serves_of (by decide), serves_of (by decide)⟩, serves_of (by decide), ⟨serves_of (by decide), ?_⟩,
    ⟨serves_of (by decide), by decide⟩, ⟨serves_of (by decide), by decide⟩⟩
  decide

theorem witness_ReadsAnswerAndChangeNothing_refused :
    (Serves .motion .runRead ready ∧ ready.run = none ∧ ready.lastRun = none ∧ (2#8) ≠ 0 ∧ (2#8) ≠ 1) ∧
    (Serves .motion .planRead ready ∧ Serves .cell .vertexRead ready ∧ ready.plate.state = .empty) ∧
    (let q : VertexReadReq := ⟨63, 4, 32⟩
     parseVertexRead q.body = some q ∧ armed.plate.state ≠ .empty ∧ 1 ≤ q.count ∧ q.count ≤ 32 ∧
       armed.contour? 63 = some squareLive ∧ squareLive.vertices.length ≤ q.first ∧ armed.contour? 62 = none) ∧
    (Serves .cell .contourRead armed ∧ 63 < (64#8).toNat ∧ armed.contour? (0#8).toNat = none) ∧
    (Serves .cell .holeRead armed ∧ 127 < (128#8).toNat ∧ armed.hole? (0#8).toNat = none) :=
  ⟨⟨serves_of (by decide), by decide⟩, ⟨serves_of (by decide), serves_of (by decide), rfl⟩, by decide,
    ⟨serves_of (by decide), by decide⟩, ⟨serves_of (by decide), by decide⟩⟩

theorem witness_PositionTargetAndConfigReads :
    Serves .motion .positionRead ready ∧ Serves .thread .targetRead ready ∧ Serves .cell .configRead ready :=
  ⟨serves_of (by decide), serves_of (by decide), serves_of (by decide)⟩

theorem witness_DiscardedFramesAreRecorded :
    (∀ l, ready.receives l = true) ∧ (busyCell.link .cell).busy.isSome = true := by
  refine ⟨fun l => ?_, by decide⟩
  cases l <;> rfl

theorem witness_UnknownKindAndLinkEvents :
    (ready.receives .thread = true ∧ (ready.link .thread).busy = none ∧ Req.ofKind .thread 0x10 = none ∧
      (0x10#8).toNat < 128 ∧ Req.ofKind .thread 0x80 = none) ∧
    (ready.resetLow = false ∧ ∃ p frame, (busyCell.link .cell).busy = some p ∧ p.reply = some frame) ∧
    (({ ready with cell := { ready.cell with rx := .brk } } : State).link .cell).rx = .brk := by
  refine ⟨by decide, ⟨rfl, _, _, rfl, rfl⟩, rfl⟩

/-! ### Witnesses: runs -/

theorem armed_open_allowed : OpenAllowed ⟨63, 127, 0, 0, 7⟩ squareLive pinLive .first .fwd armed := by
  unfold OpenAllowed
  decide

theorem witness_RunOpenPostsStartTarget :
    Serves .motion .runOpen armed ∧ parseRunOpen [63, 127, 0, 0, 7] = some ⟨63, 127, 0, 0, 7⟩ ∧
      OpenAllowed ⟨63, 127, 0, 0, 7⟩ squareLive pinLive .first .fwd armed ∧ armed.planner.wire = .none :=
  ⟨serves_of (by decide), by decide, armed_open_allowed, rfl⟩

def armedThreaded : State := { armed with planner := { armed.planner with wire := .hole 127 } }

theorem witness_RunOpenTakesUpThreadedHole :
    Serves .motion .runOpen armedThreaded ∧ parseRunOpen [63, 127, 0, 0, 7] = some ⟨63, 127, 0, 0, 7⟩ ∧
      OpenAllowed ⟨63, 127, 0, 0, 7⟩ squareLive pinLive .first .fwd armedThreaded ∧
      armedThreaded.planner.wire = .hole 127 := by
  refine ⟨serves_of (by decide), by decide, ?_, rfl⟩
  unfold OpenAllowed
  decide

/-- What RUN_OPEN answers to a body, its status byte. -/
def openStatus (body : List Byte) (s : State) : Option Byte :=
  ((after (exec (.runOpen 9 body) s) s).motion.busy.bind (·.reply)).bind (·[4]?)

/-- A state and a body for each of R62's checks that fails first (1, 2, 3, 4), and for each field of check 4. -/
theorem witness_RunOpenRefusedByTheFirstCheck :
    (Serves .motion .runOpen loaded ∧ loaded.plate.state.live = false) ∧
    (Serves .motion .runOpen cutting ∧ cutting.plate.state.live = true ∧ cutting.run.isSome = true) ∧
    (armed.run = none ∧ ({ armed with gap := { armed.gap with violation := true } } : State).gap.violation = true) ∧
    ¬ (armed.gap.violation = true ∨ armed.suspect = true ∨ armed.lineFault = true) ∧
    (63 < 64 ∧ armed.contour? 0 = none ∧ 127 < 128 ∧ armed.hole? 0 = none ∧ 2 < 3 ∧ 1 < 2) :=
  ⟨⟨serves_of (by decide), rfl⟩, ⟨serves_of (by decide), by decide⟩, by decide, by decide, by decide⟩

/-- Checks 5 to 10 on the square: a BLOCKED hole, RELEASE of a PLANNED contour, RELEASE without its catch, setting 8, the
wire elsewhere, and no uncut cell ahead of the entry. -/
theorem test_runOpen_checks :
    (let blocked : State := { armed with plate := { armed.plate with
        holes := [(127, { pinLive with live := some { HoleLive.start with state := .blocked } })] } }
     let held := withLive { ContourLive.start with coverage := [⟨0, 2400⟩, ⟨2600, 4000⟩], state := .held } armed
     let wired : State := { armed with planner := { armed.planner with wire := .unknown } }
     let done := withLive { ContourLive.start with coverage := [⟨0, 4000⟩], state := .partly } armed
     openStatus [63, 127, 0, 0, 7] blocked = some 0x01 ∧ openStatus [63, 127, 1, 0, 7] armed = some 0x01 ∧
       openStatus [63, 127, 1, 0, 7] held = some 0x01 ∧ openStatus [63, 127, 0, 0, 8] armed = some 0x02 ∧
       openStatus [63, 127, 0, 0, 7] wired = some 0x07 ∧ openStatus [63, 127, 0, 0, 7] done = some 0x01 ∧
       openStatus [63, 127, 0, 0, 7] armed = some 0x00) := by decide

/-- A run kind RELEASE is allowed too, with its catch armed. -/
theorem witness_release_allowed :
    OpenAllowed ⟨63, 127, 1, 1, 0⟩
      { squareLive with live := some { ContourLive.start with coverage := [⟨0, 2400⟩, ⟨2600, 4000⟩], state := .held } }
      pinLive .release .rev
      { withLive { ContourLive.start with coverage := [⟨0, 2400⟩, ⟨2600, 4000⟩], state := .held } armed with
        catchSet := [63] } := by
  unfold OpenAllowed
  decide

theorem witness_RunContinueReturnsToItsPhase :
    (Serves .motion .runContinue halted ∧ NothingStands halted ∧
      ∃ run h, halted.run = some run ∧ run.phase = .halted ∧ run.halt = some h ∧
        (h.causes.pinch = false ∨ halted.shortIn = false) ∧
        (({ halted with shortIn := true } : State).run = some run ∧ h.causes.pinch = true)) ∧
    ({ halted with gap := { halted.gap with violation := true } } : State).gap.violation = true ∧
    (Serves .motion .runContinue cutting ∧ ∀ run, cutting.run = some run → run.phase ≠ .halted) := by
  refine ⟨⟨serves_of (by decide), ⟨by decide, rfl⟩, _, _, rfl, rfl, rfl, .inr rfl, rfl, rfl⟩, rfl,
    serves_of (by decide), of_some (w := runIn .cutting) rfl (by decide)⟩

/-- Cutting, the square cut through, with a hole inside it. -/
def withInside : State :=
  let s := withLive { ContourLive.start with coverage := [⟨0, 4000⟩], state := .partly } cutting
  { s with plate := { s.plate with holes := [(3, { pinLive with loc := .inside }), (127, pinLive)] } }

theorem witness_RunCloseEndsTheRun :
    (Serves .motion .runClose cutting ∧ cutting.run = some (runIn .cutting) ∧
      cutting.contour? 63 = some squareLive ∧ squareLive.live = some ContourLive.start ∧
      cutting.hole? 127 = some pinLive ∧ pinLive.loc = .outside) ∧
    (Serves .motion .runClose withInside ∧ withInside.run = some (runIn .cutting) ∧
      withInside.hole? 3 = some { pinLive with loc := .inside } ∧ pinLive.owner = (runIn .cutting).contour) ∧
    (Serves .motion .runClose armed ∧ armed.run = none) :=
  ⟨⟨serves_of (by decide), rfl, by decide, rfl, by decide, rfl⟩, ⟨serves_of (by decide), rfl, by decide, rfl⟩,
    serves_of (by decide), rfl⟩

theorem test_close_loses_inside_hole :
    ((after (exec (.runClose 1 []) withInside) armed).hole? 3).map (·.lv.state) = some .lost := by decide

theorem witness_SettingChangeAndWarnClear :
    (Serves .motion .settingChange cutting ∧ cutting.run = some (runIn .cutting) ∧ (7#8).toNat ≤ 7) ∧
    (Serves .motion .settingChange armed ∧ armed.run = none) ∧ (cutting.run.isSome = true ∧ 7 < (8#8).toNat) ∧
    Serves .motion .warnClear cutting ∧ Serves .motion .warnClear armed :=
  ⟨⟨serves_of (by decide), rfl, by decide⟩, ⟨serves_of (by decide), rfl⟩, by decide, serves_of (by decide),
    serves_of (by decide)⟩

/-! ### Witnesses: axes -/

theorem witness_ZeroSetSetsBothOffsets :
    (Serves .motion .zeroSet armed ∧ armed.run = none ∧ armed.lineFault = false) ∧
    (Serves .motion .zeroSet cutting ∧ cutting.run.isSome = true) ∧
    (let s : State := { armed with axisX := { armed.axisX with fault := true } }
     Serves .motion .zeroSet s ∧ s.run = none ∧ s.lineFault = true) :=
  ⟨⟨serves_of (by decide), by decide⟩, ⟨serves_of (by decide), by decide⟩, ⟨serves_of (by decide), by decide⟩⟩

/-- Cutting, with levels taken on the X channel, in the envelope's corner of the count. -/
def stepping (q : Option (Bool × Bool)) : State :=
  { cutting with axisX := { cutting.axisX with
      quad := q, lastA := q.map (·.1), lastB := q.map (·.2), count := 0x7FFFFFFF } }

theorem witness_QuadratureStepCounts :
    (stepping none).resetLow = false ∧ ((stepping none).axis .x).fault = false ∧
    ((stepping none).axis .x).quad = none ∧ ((stepping (some (true, false))).axis .x).quad = some (true, false) ∧
    (((stepping (some (false, true))).axis .x).quad, false, false) ∈
      [(some (false, false), true, false), (some (true, false), true, true), (some (true, true), false, true),
        (some (false, true), false, false)] ∧
    (((stepping (some (false, true))).axis .x).quad, true, true) ∈
      [(some (false, false), false, true), (some (true, false), false, false), (some (true, true), true, false),
        (some (false, true), true, true)] ∧
    ((stepping (some (false, true))).axis .x).quad = some (!true, !false) ∧
    ((stepping none).run = some (runIn .cutting) ∧ (runIn .cutting).phase.tracking = true ∧
      (stepping none).encoderCond = false) ∧
    (({ stepping none with axisX := { (stepping none).axisX with fault := true } } : State).axis .x).fault = true := by
  decide

/-- A line fault has ended on X: no reference levels, the last valid levels stay. -/
def faultEnded : State := { cutting with axisX := { cutting.axisX with lastA := some true, lastB := some false } }

theorem witness_QuadratureStepCounts_invalid_pair :
    faultEnded.resetLow = false ∧ (faultEnded.axis .x).lastA = some true ∧ (faultEnded.axis .x).lastB = some false ∧
      (faultEnded.axis .x).fault = false ∧ (ready.axis .x).lastA = none := by decide

theorem test_invalid_pair_takes_its_last_level_after_a_fault :
    ((after (exec (.quadratureStep .x none none) faultEnded) faultEnded).axis .x).quad = some (true, false) ∧
      (after (exec (.quadratureStep .x none none) faultEnded) faultEnded).freeCount = faultEnded.freeCount := by decide

/-- Cutting, with an index pitch on Y and a count away from the reference. -/
def indexed (count : BitVec 32) (ref : Option (BitVec 32)) : State :=
  { cutting with
    cfg := { cutting.cfg with indexPitchY := 1000 }
    axisY := { cutting.axisY with count := count, index := ref } }

theorem witness_LineFaultsAndIndexPulses :
    (cutting.resetLow = false ∧ (cutting.axis .y).fault = false ∧ cutting.encoderCond = false ∧
      cutting.run = some (runIn .cutting) ∧ (runIn .cutting).phase.tracking = true) ∧
    (({ cutting with axisY := { cutting.axisY with fault := true } } : State).axis .y).fault = true ∧
    ((indexed 4 none).cfg.indexPitch .y ≠ 0 ∧ ((indexed 4 none).axis .y).index = none) ∧
    (((indexed 4 (some 0)).axis .y).index = some 0 ∧ ((4#32) - 0).toInt.natAbs ≤ (indexed 4 (some 0)).cfg.indexTol) ∧
    (let d := ((1005#32) - 0).toInt.natAbs
     ¬ (d ≤ (indexed 1005 (some 0)).cfg.indexTol ∨
       ((d : Int) - (indexed 1005 (some 0)).cfg.indexPitch .y).natAbs ≤ (indexed 1005 (some 0)).cfg.indexTol)) ∧
    cutting.cfg.indexPitch .x = 0 := by decide

/-! ### Witnesses: threading -/

/-- The START target posted, its attempt not begun, the machine above it. -/
def targeted : State :=
  { awaiting with
    axisX := { awaiting.axisX with count := 700 }
    axisY := { awaiting.axisY with count := -500 }
    planner := { awaiting.planner with target := some ⟨1, .start, .hole 127, 63, ⟨500, -300⟩, false⟩ } }

theorem witness_ThreadBeginAndWireCut :
    (Serves .thread .threadBegin targeted ∧
      targeted.planner.target = some ⟨1, .start, .hole 127, 63, ⟨500, -300⟩, false⟩ ∧
      targeted.planner.wire = .none ∧ targeted.holdIn = false ∧ targeted.suspect = false ∧
      targeted.available = true ∧ (targeted.pos.x - 500).natAbs ≤ targeted.cfg.threadTol ∧
      (targeted.pos.y - -300).natAbs ≤ targeted.cfg.threadTol) ∧
    (Serves .thread .threadBegin armed ∧ armed.planner.target = none) ∧
    (1 ≠ (2#8).toNat ∧ awaiting.planner.target.map (·.begun) = some true ∧
      ({ targeted with planner := { targeted.planner with wire := .unknown } } : State).planner.wire ≠ .none ∧
      ({ targeted with holdIn := true } : State).holdIn = true ∧
      ¬ (({ targeted with axisX := { targeted.axisX with count := 701 } } : State).pos.x - 500).natAbs ≤
        targeted.cfg.threadTol) ∧
    (Serves .thread .wireCut awaiting ∧
      ∀ run, awaiting.run = some run → run.phase = .awaitThread ∨ run.phase = .broken ∨ run.phase = .stranded) ∧
    (Serves .thread .wireCut cutting ∧ cutting.run = some (runIn .cutting)) := by
  refine ⟨⟨serves_of (by decide), by decide⟩, ⟨serves_of (by decide), rfl⟩, by decide, ⟨serves_of (by decide), ?_⟩,
    serves_of (by decide), rfl⟩
  exact of_some (w := runIn .awaitThread) rfl (.inl rfl)

/-- The same with the violation latch set. -/
def awaitingLatched : State := { awaiting with gap := { awaiting.gap with violation := true } }

theorem test_threadDone_reply_carries_phase_entered :
    (after (exec (.threadDone 1 [1, 0]) awaitingLatched) awaiting).run.map (·.phase) = some .halted ∧
      ((after (exec (.threadDone 1 [1, 0]) awaitingLatched) awaiting).thread.busy.bind (·.reply)).map
        (fun f => (f.drop 4).take 4) = some [0, 1, 0, 1] := by decide

theorem witness_ThreadDoneOkAtHoleResumesRun_latched :
    Serves .thread .threadDone awaitingLatched ∧ RunCoherent awaitingLatched ∧ ¬ NothingStands awaitingLatched :=
  ⟨serves_of (by decide), coherent_of (run := runIn .awaitThread) rfl rfl (by decide) rfl (.inl rfl) rfl,
    fun h => by cases h.2⟩

theorem witness_ThreadDoneOkAtHoleResumesRun :
    Serves .thread .threadDone awaiting ∧ RunCoherent awaiting ∧ NothingStands awaiting ∧
      awaiting.planner.target = some ⟨1, .start, .hole 127, 63, ⟨500, -300⟩, true⟩ ∧
      (∀ w, awaiting.planner.withdrawn = some w → w.number ≠ 1) ∧ awaiting.run = some (runIn .awaitThread) ∧
      awaiting.hole? 127 = some pinLive ∧ awaiting.contour? 63 = some squareLive :=
  ⟨serves_of (by decide), coherent_of (run := runIn .awaitThread) rfl rfl (by decide) rfl (.inl rfl) rfl,
    ⟨by decide, rfl⟩, rfl, of_none rfl, rfl, by decide, by decide⟩

theorem broken_coherent : RunCoherent broken := by
  refine coherent_of (run := broken.run.getD (runIn .broken)) ?_ ?_ ?_ ?_ ?_ ?_ <;> decide

theorem witness_ThreadDoneOkInKerfResumesRun :
    Serves .thread .threadDone broken ∧ RunCoherent broken ∧ NothingStands broken ∧
      (∃ g run plan, broken.planner.target = some g ∧ g.number = 255 ∧ g.begun = true ∧ g.place = .kerf ∧
        g.purpose = .resume ∧ broken.run = some run ∧ run.plan = some plan ∧ plan.backoff = some 0 ∧
        broken.contour? run.contour = some squareLive) ∧
      (∀ w, broken.planner.withdrawn = some w → w.number ≠ 255) ∧
      ¬ NothingStands { broken with gap := { broken.gap with violation := true } } :=
  ⟨serves_of (by decide), broken_coherent, ⟨by decide, rfl⟩,
    ⟨_, _, _, rfl, rfl, rfl, rfl, rfl, rfl, rfl, rfl, by decide⟩, of_none rfl, fun h => by cases h.2⟩

/-- A target that was withdrawn while its attempt was begun. -/
def withdrawnHeld : State :=
  { armed with planner := { armed.planner with withdrawn := some ⟨255, .kerf, 63, ⟨500, 0⟩⟩ } }

theorem witness_ThreadDoneFailAndWithdrawn :
    (Serves .thread .threadDone awaiting ∧ RunCoherent awaiting ∧
      (∃ g, awaiting.planner.target = some g ∧ g.number = 1 ∧ g.begun = true ∧ g.place = .hole 127) ∧
      (∀ w, awaiting.planner.withdrawn = some w → w.number ≠ 1) ∧ awaiting.hole? 127 = some pinLive ∧
      pinLive.live = some HoleLive.start) ∧
    (Serves .thread .threadDone broken ∧ RunCoherent broken ∧ (broken.run.bind (·.brk)).isSome = true) ∧
    (Serves .thread .threadDone withdrawnHeld ∧ ∃ w, withdrawnHeld.planner.withdrawn = some w ∧ w.number = 255) :=
  ⟨⟨serves_of (by decide), witness_ThreadDoneOkAtHoleResumesRun.2.1, ⟨_, rfl, rfl, rfl, rfl⟩, of_none rfl,
      by decide, rfl⟩,
    ⟨serves_of (by decide), broken_coherent, rfl⟩, serves_of (by decide), ⟨_, rfl, rfl⟩⟩

theorem witness_ThreadDoneFailAndWithdrawn_refused :
    (let q : ThreadDoneReq := ⟨255, 2⟩; q.number < 256 ∧ q.result < 256 ∧ 1 < q.result) ∧
    (Serves .thread .threadDone armed ∧ armed.planner.target = none ∧ armed.planner.withdrawn = none) ∧
    (awaiting.planner.withdrawn = none ∧ awaiting.planner.target.map (·.number) = some 1) ∧
    (Serves .thread .threadDone targeted ∧ targeted.planner.withdrawn = none ∧
      targeted.planner.target = some ⟨1, .start, .hole 127, 63, ⟨500, -300⟩, false⟩) :=
  ⟨by decide, ⟨serves_of (by decide), rfl, rfl⟩, by decide, serves_of (by decide), rfl, rfl⟩

theorem witness_BreakInIsRecordedCountedOrCaptured :
    (armed.resetLow = false ∧ armed.run = none) ∧
    (awaiting.run = some (runIn .awaitThread) ∧ (runIn .awaitThread).phase = .awaitThread) ∧
    (cutting.run = some (runIn .cutting) ∧ cutting.planner.target = none ∧ (runIn .cutting).phase = .cutting) := by
  decide

/-- Broken, with two more holes on the square: 5 allows REV alone, 9 allows both directions. -/
def threeHoles (own : HoleState) : State :=
  let other (d : Dirs) : Hole := { pinLive with dirs := d }
  { broken with plate := { broken.plate with holes :=
      [(5, other .rev), (9, other .both), (127, { pinLive with live := some { HoleLive.start with state := own } })] } }

/-- A break on the loop and one on a lead-in. -/
def loopBreak : BreakRecord := ⟨.cutting, .loop, ⟨800, 0⟩, 300, 300⟩
def leadInBreak : BreakRecord := ⟨.leadIn, .leadIn 127, ⟨500, -100⟩, 0, 0⟩

theorem witness_PlanIsTheFirstThatApplies :
    ((threeHoles .blocked).plate.holes.wf = true ∧ (threeHoles .blocked).contour? 63 = some squareLive) ∧
    (∀ h, loopBreak.path ≠ .leadIn h) ∧ broken.planner.kerf.getD 0 < broken.cfg.kerfLimit ∧
    (broken.hole? 127 = some pinLive ∧ pinLive.lv.state = .opened ∧ leadInBreak.path = .leadIn 127) :=
  ⟨by decide, fun h e => (by cases e), by decide, by decide, rfl, rfl⟩

theorem test_plans :
    (choosePlan (threeHoles .opened) (runIn .broken) leadInBreak).map (·.place) = some (.hole 127) ∧
      (let s := { threeHoles .blocked with cfg := { ConfigRecord.reset with kerfLimit := 0 } }
       (choosePlan s (runIn .broken) loopBreak).map (·.place) = some (.hole 9) ∧
         choosePlan s (runIn .broken) leadInBreak = none) := by decide

/-! ### Witnesses: plate map -/

theorem witness_PlateBeginDisarmAndClose :
    (Serves .cell .plateBegin ready ∧ parseWord [0xFF, 0xFF, 0xFF, 0xFF] = some 4294967295 ∧
      ready.plate.state = .empty ∧ loaded.plate.state ≠ .empty) ∧
    (Serves .cell .plateDisarm armed ∧ armed.plate.state = .armed ∧ loaded.plate.state ≠ .armed) ∧
    (Serves .cell .plateClose loaded ∧ loaded.plate.state = .loading ∧ loaded.run = none ∧
      loaded.planner.target = none) ∧
    (Serves .cell .plateClose cutting ∧ cutting.plate.state = .active ∧ cutting.run.isSome = true) ∧
    (Serves .cell .plateClose validating ∧ validating.plate.state = .validating) :=
  ⟨⟨serves_of (by decide), by decide⟩, ⟨serves_of (by decide), by decide⟩, ⟨serves_of (by decide), by decide⟩,
    ⟨serves_of (by decide), by decide⟩, serves_of (by decide), rfl⟩

theorem witness_MapLoadingDefinesEntries :
    (Serves .cell .contourLoad loaded ∧ loaded.plate.state = .loading ∧
      (let q : ContourLoadReq := ⟨63, 2, 65535, List.replicate 4 ⟨⟨0, 0⟩, ⟨0, 1⟩⟩⟩
       parseContourLoad q.body = some q ∧ RetClass.ofCode q.cls = some .keep ∧ q.index ≤ 63 ∧ q.tabs.length ≤ 4)) ∧
    (Serves .cell .vertexAppend loaded ∧
      (let q : VertexAppendReq := ⟨63, List.replicate 32 ⟨-8388608, 8388607⟩⟩
       parseVertexAppend q.body = some q ∧ q.contour ≤ 63 ∧ 1 ≤ q.points.length ∧ q.points.length ≤ 32 ∧
         loaded.contour? q.contour = some square ∧ square.vertices.length + q.points.length ≤ 1024 ∧
         q.points.length ≤ loaded.plate.free)) ∧
    (Serves .cell .holeLoad loaded ∧
      (let q : HoleLoadReq := ⟨127, 63, 1, 2, ⟨0, 0⟩, List.replicate 4 ⟨1, 1⟩⟩
       parseHoleLoad q.body = some q ∧ Location.ofCode q.loc = some .outside ∧ Dirs.ofCode q.dirs = some .both ∧
         q.index ≤ 127 ∧ q.owner ≤ 63 ∧ 1 ≤ q.leadIn.length ∧ q.leadIn.length ≤ 4 ∧
         loaded.plate.othersOf q.index q.owner < 4 ∧ q.leadIn.length ≤ loaded.plate.freeFor q.index)) :=
  ⟨⟨serves_of (by decide), by decide⟩, ⟨serves_of (by decide), by decide +kernel⟩, serves_of (by decide),
    by decide⟩

/-- A map with a contour of 1024 vertices, and four holes on the square. -/
def crowded : State :=
  { loaded with plate := { loaded.plate with
      contours := [(1, { square with vertices := List.replicate 1024 ⟨0, 0⟩ }), (63, square)]
      holes := [(3, pin), (4, pin), (5, pin), (127, pin)] } }

/-- A pool with no free place. -/
def fullPlate : Plate :=
  { Plate.reset with contours := [(5, { square with vertices := List.replicate 4096 ⟨0, 0⟩ })] }

theorem witness_MapLoadingDefinesEntries_refused :
    (Serves .cell .contourLoad armed ∧ armed.plate.state ≠ .loading ∧ 63 < 64 ∧ 2 < 3 ∧ 4 < 5) ∧
    (Serves .cell .vertexAppend crowded ∧ crowded.plate.state = .loading ∧
      (let q : VertexAppendReq := ⟨62, [⟨0, 0⟩]⟩
       parseVertexAppend q.body = some q ∧ q.contour ≤ 63 ∧ crowded.contour? q.contour = none) ∧
      ∃ c, crowded.contour? 1 = some c ∧ c.vertices ≠ [] ∧ 1024 < c.vertices.length + 1) ∧
    (Serves .cell .holeLoad crowded ∧
      (let q : HoleLoadReq := ⟨6, 63, 1, 2, ⟨0, 0⟩, [⟨1, 1⟩]⟩
       parseHoleLoad q.body = some q ∧ 4 ≤ crowded.plate.othersOf q.index q.owner)) ∧
    (fullPlate.free < 1 ∧ fullPlate.freeFor 6 < 1) := by
  have full : fullPlate.used = 4096 := by
    simp only [fullPlate, Plate.used, List.map_cons, List.map_nil, List.sum_cons, List.sum_nil, List.length_replicate,
      Plate.reset, Nat.add_zero]
  refine ⟨⟨serves_of (by decide), by decide⟩,
    ⟨serves_of (by decide), rfl, by decide, _, rfl, fun h => (by cases h), ?_⟩, ⟨serves_of (by decide), by decide⟩, ?_⟩
  · rw [show (List.replicate 1024 (⟨0, 0⟩ : Point)).length = 1024 from List.length_replicate]
    decide
  · rw [Plate.freeFor, Plate.free, full]
    decide

/-- A map that does not validate: the square has no hole. -/
def validatingBad : State := { validating with plate := { validating.plate with holes := [] } }

/-- Validating, with PLATE_ARM's reply held. -/
def validatingHeld : State := after (exec (.plateArm 5 []) loaded) loaded

theorem witness_PlateArmAndValidation :
    (Serves .cell .plateArm loaded ∧ loaded.plate.state = .loading) ∧
    (validatingHeld.plate.state = .validating ∧ mapErrors validatingHeld.plate = [] ∧
      validatingHeld.cell.busy = some ⟨0x34, 5, none, 0⟩ ∧ validatingHeld.contour? 63 = some square ∧
      validatingHeld.hole? 127 = some pin) ∧ validating.cell.busy = none ∧
    (validatingBad.plate.state = .validating ∧ mapErrors validatingBad.plate ≠ []) :=
  ⟨⟨serves_of (by decide), rfl⟩, by decide, rfl, by decide⟩

theorem witness_PlateArmAndValidation_refused : Serves .cell .plateArm armed ∧ armed.plate.state ≠ .loading :=
  ⟨serves_of (by decide), by decide⟩

/-- A triangle with a repeated vertex, a tab out of place, two that touch and are narrow, and a hole on the tabs. -/
def faulty : Contour :=
  ⟨.tabbed, 11, [⟨0, 0⟩, ⟨30, 0⟩, ⟨30, 0⟩, ⟨0, 40⟩],
    [⟨⟨0, 0⟩, ⟨0, 10⟩⟩, ⟨⟨4, 0⟩, ⟨0, 1⟩⟩, ⟨⟨0, 10⟩, ⟨0, 20⟩⟩], none, none⟩

def faultyPlate : Plate :=
  { Plate.reset with
    contours := [(3, faulty), (7, ⟨.drop, 0, [], [⟨⟨0, 0⟩, ⟨0, 1⟩⟩], none, none⟩)]
    holes := [(0, { pin with owner := 3, centre := ⟨15, -9⟩, leadIn := [⟨15, -9⟩, ⟨15, -2⟩] }), (2, pin)]
    entryTol := 1 }

theorem test_validation_finds_errors_in_order :
    mapErrors faultyPlate =
      [⟨.zeroSegment, some 3, none, some 1, none⟩, ⟨.tabPlace, some 3, none, some 1, none⟩,
        ⟨.tabNarrow, some 3, none, some 0, none⟩, ⟨.tabNarrow, some 3, none, some 2, none⟩,
        ⟨.tabOverlap, some 3, none, some 2, some 0⟩, ⟨.classTabs, some 7, none, none, none⟩,
        ⟨.fewVertices, some 7, none, none, none⟩, ⟨.noHole, some 7, none, none, none⟩,
        ⟨.leadinZero, some 3, some 0, some 0, none⟩, ⟨.entryOff, some 3, some 0, none, none⟩,
        ⟨.entryInTab, some 3, some 0, none, none⟩, ⟨.holeOwner, none, some 2, none, none⟩] := by decide

theorem witness_ValidationFindsTheErrorsOfTheRules :
    faultyPlate.contours.wf = true ∧ faultyPlate.holes.wf = true := by decide

theorem witness_ComputedFieldsFollowTheRules :
    (∀ (j : Nat) (d : DeclTab) (t : Span), square.tabs[j]? = some d → [(⟨2400, 2600⟩ : Span)][j]? = some t →
      TabLies square d t) ∧
    (Table.get? [(63, square)] pin.owner = some square ∧ EntrySegment square pin 0) ∧
    EntrySegment square { pin with leadIn := [⟨0, 0⟩] } 0 ∧ EntrySegment square { pin with leadIn := [⟨0, 1⟩] } 3 := by
  refine ⟨fun j d t hd ht => ?_, ⟨by decide, ?_⟩, ?_, ?_⟩
  · cases j with
    | zero => cases hd; cases ht; exact ⟨1000, 1000, 2000, 2000, by decide⟩
    | succ j => cases ht
  all_goals (unfold EntrySegment; decide)

/-! ### Witnesses: catches, slugs, holes -/

theorem witness_CatchArmAndDisarm :
    (Serves .cell .catchArm { cutting with catchSet := [0, 1, 2] } ∧ cutting.plate.state.live = true ∧
      cutting.contour? (63#8).toNat = some squareLive ∧ squareLive.live = some ContourLive.start ∧
      (63#8).toNat ∉ ({ cutting with catchSet := [0, 1, 2] } : State).catchSet ∧ cutting.run = some (runIn .cutting) ∧
      (runIn .cutting).contour = (63#8).toNat) ∧
    (Serves .cell .catchDisarm { cutting with catchSet := [0, 63] } ∧ ContourLive.start.state ≠ .free ∧
      (∀ run, cutting.run = some run → run.contour = (63#8).toNat → run.final = false) ∧
      (63#8).toNat ∈ ({ cutting with catchSet := [0, 63] } : State).catchSet) :=
  ⟨⟨serves_of (by decide), by decide⟩, serves_of (by decide), by decide,
    of_some (w := runIn .cutting) rfl (fun _ => rfl), by decide⟩

/-- A contour in a state, with a catch set of four without it, of one with it. -/
def caught (st : RState) (set : List Nat) : State :=
  { withLive { ContourLive.start with state := st } armed with catchSet := set }

theorem witness_CatchArmAndDisarm_refused :
    (Serves .cell .catchArm loaded ∧ Serves .cell .catchDisarm loaded ∧ loaded.plate.state.live = false) ∧
    (Serves .cell .catchArm armed ∧ armed.plate.state.live = true ∧ 63 < (64#8).toNat ∧
      armed.contour? (0#8).toNat = none) ∧
    (∃ c v, (caught .loose []).contour? (63#8).toNat = some c ∧ c.live = some v ∧ v.state = .loose) ∧
    (∃ c v, (caught .free [63]).contour? (63#8).toNat = some c ∧ c.live = some v ∧ v.state = .free) ∧
    ((63#8).toNat ∈ (caught .held [63]).catchSet ∧ (63#8).toNat ∉ (caught .held [0, 1, 2, 3]).catchSet ∧
      4 ≤ (caught .held [0, 1, 2, 3]).catchSet.length) ∧
    ∃ run, ({ cutting with run := some { runIn .cutting with final := true } } : State).run = some run ∧
      run.contour = (63#8).toNat ∧ run.final = true :=
  ⟨⟨serves_of (by decide), serves_of (by decide), rfl⟩, ⟨serves_of (by decide), by decide⟩, ⟨_, _, rfl, rfl, rfl⟩,
    ⟨_, _, rfl, rfl, rfl⟩, by decide, _, rfl, by decide⟩

theorem witness_SlugRemovedContourVoidAndHoleReset_refused :
    (Serves .cell .slugRemoved loaded ∧ Serves .cell .contourVoid loaded ∧ Serves .cell .holeReset loaded) ∧
    (Serves .cell .slugRemoved cutting ∧ Serves .cell .contourVoid cutting ∧
      ∃ run, cutting.run = some run ∧ run.contour = (63#8).toNat) ∧
    ((∃ c v, armed.contour? (63#8).toNat = some c ∧ c.live = some v ∧ v.state ≠ .free ∧ v.state ≠ .loose) ∧
      ∃ c v, (caught .free []).contour? (63#8).toNat = some c ∧ c.live = some v ∧ v.state = .free) ∧
    (Serves .cell .holeReset armed ∧ 127 < (128#8).toNat ∧ armed.hole? (0#8).toNat = none) :=
  ⟨⟨serves_of (by decide), serves_of (by decide), serves_of (by decide)⟩,
    ⟨serves_of (by decide), serves_of (by decide), _, rfl, by decide⟩,
    ⟨⟨_, _, rfl, rfl, by decide, by decide⟩, _, _, rfl, rfl, rfl⟩, serves_of (by decide), by decide⟩

/-- AT_LIMIT, the stop point behind the limits that a catch would give. -/
def atLimit : State :=
  let s := running { runIn .atLimit with limit := 1000, stop := 950 } .loop (.hole 127)
  { s with prog := { s.prog with a := 1000 }, sampling := .inProgress .atLimit .first true }

theorem test_catchArm_returns_to_cutting :
    (let t := after (exec (.catchArm 1 [63]) atLimit) atLimit
     t.run.map (fun r => (r.phase, r.stop)) = some (.cutting, 1850) ∧ t.sampling = .abandoned) := by decide

theorem witness_SlugRemovedContourVoidAndHoleReset :
    (let s := withLive { ContourLive.start with coverage := [⟨0, 4000⟩], state := .free } armed
     Serves .cell .slugRemoved s ∧ s.plate.state.live = true ∧ (∃ c v, s.contour? (63#8).toNat = some c ∧
       c.live = some v ∧ v.state = .free) ∧ ∀ run, s.run = some run → run.contour ≠ (63#8).toNat) ∧
    (Serves .cell .contourVoid armed ∧ armed.contour? (63#8).toNat = some squareLive ∧
      ContourLive.start.state = .planned ∧ ∀ run, armed.run = some run → run.contour ≠ (63#8).toNat) ∧
    (Serves .cell .holeReset armed ∧ armed.hole? (127#8).toNat = some pinLive ∧ pinLive.live = some HoleLive.start) :=
  ⟨⟨serves_of (by decide), rfl, ⟨_, _, rfl, rfl, rfl⟩, of_none rfl⟩,
    ⟨serves_of (by decide), by decide, rfl, of_none rfl⟩, serves_of (by decide), by decide, rfl⟩

/-- The square with given coverage and marks. -/
def squareWith (cov : List Span) (tilt removed voided : Bool) : Contour :=
  { squareLive with live := some ⟨cov, none, .partly, tilt, removed, voided, 0⟩ }

theorem witness_EvaluationFollowsTheTable :
    ((squareWith [⟨0, 4000⟩] false true false).answers 50).full = true ∧
    ((squareWith [] false false false).answers 50).full = false ∧
    (∀ t ∈ uncovered 4000 [⟨0, 2350⟩, ⟨2650, 4000⟩], isRemnant 4000 50 (squareWith [⟨0, 2350⟩, ⟨2650, 4000⟩] false
      false false).protectedTabs t = true) ∧
    ((squareWith [⟨0, 2350⟩, ⟨2650, 4000⟩] false false false).answers 50).full = false ∧
    (∃ t ∈ uncovered 4000 [⟨0, 2349⟩, ⟨2650, 4000⟩], isRemnant 4000 50 (squareWith [⟨0, 2349⟩, ⟨2650, 4000⟩] false
      false false).protectedTabs t = false) ∧
    ((squareWith [⟨0, 2349⟩, ⟨2650, 4000⟩] false false false).answers 50).full = false := by decide

theorem witness_RemnantTestCountsCellsBeyondTheTab :
    (let shared (k : Nat) : Bool := (List.range 2).any (fun j => (3 + k) % 8 == (4 + j) % 8)
     (List.range 5).all (fun k => shared k == (decide (1 ≤ k) && decide (k < 3))) = true ∧
       isRemnant 8 2 [⟨4, 2⟩] ⟨3, 5⟩ = true ∧ isRemnant 8 1 [⟨4, 2⟩] ⟨3, 5⟩ = false) ∧
    (let shared (k : Nat) : Bool := (List.range 6).any (fun j => (0 + k) % 8 == (5 + j) % 8)
     (List.range 7).all (fun k => shared k == (decide (k < 3) || decide (5 ≤ k))) = true ∧
       isRemnant 8 2 [⟨5, 6⟩] ⟨0, 7⟩ = true ∧ isRemnant 8 1 [⟨5, 6⟩] ⟨0, 7⟩ = false) ∧
    isRemnant 8 8 [⟨4, 2⟩] ⟨0, 3⟩ = false := by decide

/-! ### Witnesses: Gap Monitor, configuration, trace -/

theorem witness_FaultClearClearsViolation : Serves .cell .faultClear ready := serves_of (by decide)

theorem cutting_driven : Driven (drive cutting) := by
  refine ⟨by decide, by decide, fun l => ?_⟩
  cases l <;> decide

/-- AT_LIMIT, one stray short of the latch. -/
def strayEdge : State :=
  let s := running (runIn .atLimit) .loop (.hole 127)
  { s with gap := { s.gap with stray := 8 } }

theorem witness_SparkInPulseCounts :
    ((drive cutting).resetLow = false ∧ Driven (drive cutting) ∧ (drive cutting).gap.interval = 65535 ∧
      (drive cutting).run = some (runIn .cutting) ∧ (drive cutting).contour? 63 = some squareLive) ∧
    (armed.resetLow = false ∧ Driven armed ∧ armed.run = none) ∧
    (Driven strayEdge ∧ strayEdge.sparkOk = false ∧ strayEdge.cfg.strayLimit < min 65535 (strayEdge.gap.stray + 1) ∧
      strayEdge.gap.violation = false ∧ (runIn .atLimit).phase.tracking = true) ∧
    ({ drive cutting with gap := { (drive cutting).gap with interval := 0 } } : State).gap.interval ≠ 65535 := by
  refine ⟨⟨rfl, cutting_driven, by decide⟩, ⟨rfl, armed_driven, rfl⟩, ⟨⟨?_, ?_, fun l => ?_⟩, ?_⟩, ?_⟩
  case refine_3 => cases l <;> decide
  all_goals decide

/-- A short in progress while a run is open. -/
def shorted (p : Phase) : State :=
  let s := running (runIn p) .loop (.hole 127)
  { s with shortIn := true, gap := { s.gap with episode := some ⟨100, false, false⟩ } }

/-- A short in progress while the run is halted on ENCODER. -/
def haltedShort : State :=
  { shorted .halted with
    run := some { runIn .halted with halt := some ⟨{ Causes.none with encoder := true }, .cutting⟩ } }

theorem witness_ShortsAndPinch :
    cutting.shortIn = false ∧
    ((shorted .cutting).run = some (runIn .cutting) ∧ (shorted .cutting).gap.episode = some ⟨100, false, false⟩ ∧
      (shorted .cutting).contour? 63 = some squareLive ∧ (runIn .cutting).phase.tracking = true) ∧
    ((shorted .broken).run = some (runIn .broken) ∧ (shorted .broken).gap.episode = some ⟨100, false, false⟩ ∧
      (shorted .broken).contour? 63 = some squareLive) ∧
    (haltedShort.run.bind (·.halt) = some ⟨{ Causes.none with encoder := true }, .cutting⟩ ∧
      haltedShort.run.map (·.phase) = some .halted ∧ haltedShort.contour? 63 = some squareLive ∧
      (haltedShort.gap.episode).map (·.pinched) = some false) := by decide

/-- An eligible non-neutral window that no setting fits, one before the mismatch limit. -/
def mismatched : State :=
  { cutting with gap := { cutting.gap with n := 5, m := 4, sum := 400, eligible := true, mismatch := 5 } }

theorem witness_WindowEndAndSettleEnd :
    (mismatched.resetLow = false ∧ mismatched.run = some (runIn .cutting) ∧ mismatched.gap.eligible = true ∧
      4 ≤ mismatched.gap.m ∧ (identify 100 0 mismatched.cfg.settings) ≠ .setting 7 ∧
      mismatched.gap.mismatch + 1 = mismatched.cfg.mismatchLimit ∧ (runIn .cutting).phase.tracking = true) ∧
    (armed.resetLow = false ∧ armed.run = none) ∧ (cutting.run = some (runIn .cutting) ∧ cutting.gap.eligible = false) := by
  decide

theorem test_lowest_setting_is_identified :
    identify 30 0 [(0, 50), (40, 10), (30, 1)] = .setting 1 ∧ identify 30 0 [(0, 50), (41, 10)] = .unknown := by decide

theorem test_counter_at_its_limit_stays :
    (let s := { mismatched with gap := { mismatched.gap with mismatch := 6 } }
     (after (exec .windowEnd s) s).gap.mismatch = 6 ∧ (after (exec .windowEnd s) s).run = s.run) := by decide

/-- A record with another permit_lead and a lower hole_limit. -/
def newConfig (lead holeLimit : Byte) : List Byte :=
  ((configFields ConfigRecord.reset).set 12 lead).set 21 holeLimit

theorem witness_ConfigWriteReplacesTheRecord :
    (Serves .cell .configWrite armed ∧ armed.run = none ∧ (parseConfig (newConfig 60 2)).isSome = true ∧
      (parseConfig (newConfig 60 2)).map (·.permitLead) = some 60 ∧
      (parseConfig (newConfig 50 2)).map (fun c => (c.permitLead, c.holeLimit)) = some (50, 2) ∧
      armed.cfg.permitLead = 50 ∧ armed.cfg.holeLimit = 3 ∧ armed.plate.state.live = true ∧
      armed.contour? 63 = some squareLive ∧ armed.hole? 127 = some pinLive) ∧
    (Serves .cell .configWrite cutting ∧ cutting.run.isSome = true) :=
  ⟨⟨serves_of (by decide), by decide⟩, serves_of (by decide), rfl⟩

/-! ### Witnesses: progress, coverage -/

/-- Cutting, the machine at a point of the loop, the frontier behind or ahead. -/
def cuttingAt (x : BitVec 32) (a : Nat) (presence : Bool) (kind : RunKind) : State :=
  let s := running { runIn .cutting with kind := kind } .loop (.hole 127)
  { s with
    axisX := { s.axisX with count := x }
    prog := { s.prog with a := a }
    gap := { s.gap with presence := presence } }

/-- An X line fault, one off-path sample before the limit. -/
def unavailable : State :=
  { cutting with axisX := { cutting.axisX with fault := true, suspect := true }, prog := { cutting.prog with offPath := 19 } }

/-- APPROACH on the loop, at the cut-from distance. -/
def approaching : State :=
  let s := running (runIn .approach) .loop (.hole 127)
  { s with axisX := { s.axisX with count := 600 } }

/-- On the lead-in of the hole, at a point of the plate. -/
def leadingIn (p : Phase) (x y : Int) : State :=
  let s := running (runIn p) (.leadIn 127) (.hole 127)
  { s with
    axisX := { s.axisX with count := BitVec.ofInt 32 x }
    axisY := { s.axisY with count := BitVec.ofInt 32 y }
    prog := { s.prog with sOld := none } }

/-- Every sample forms a record; some records stand in the FIFO. -/
def traced (n : Nat) : State :=
  let s := cuttingAt 700 0 true .first
  { s with
    cfg := { s.cfg with traceDecimation := 1, traceThreshold := 64 }
    trace := { s.trace with fifo := List.replicate n ⟨1, .cutting, 0, 0, 0, false, false, false⟩ } }

/-- The same sample in progress, its presence read as on. -/
def sampled (s : State) : State := { s with sampling := .inProgress .cutting .first true }

theorem samples_of {run : Run} {b : Bool} {s : State} (h : s.resetLow = false) (hr : s.run = some run)
    (hp : run.phase.tracking = true) (hs : s.sampling = .none) (hb : b = s.gap.presence) : Samples run b s :=
  ⟨h, hr, hp, .inl ⟨hs, hb⟩⟩

theorem samples_in_progress {run : Run} {b : Bool} {s : State} (h : s.resetLow = false) (hr : s.run = some run)
    (hp : run.phase.tracking = true) (hs : s.sampling = .inProgress run.phase run.kind b) : Samples run b s :=
  ⟨h, hr, hp, .inr hs⟩

/-- The machine away from the loop, and beyond its fifth step. -/
def away : State := { cuttingAt 700 0 true .first with axisY := { cutting.axisY with count := -600 } }

theorem witness_OffPathAndAbandonedSamples :
    (Samples (runIn .cutting) false unavailable ∧ unavailable.contour? 63 = some squareLive ∧
      unavailable.available = false ∧ unavailable.cfg.offpathLimit ≤ min 255 (unavailable.prog.offPath + 1)) ∧
    (Samples (runIn .cutting) true (sampled away) ∧ away.available = true ∧ away.prog.path = .loop ∧
      away.cfg.pathTol < (walk squareLive.legs true away.cfg.pathTol away.pos 4 away.prog.seg).dev) ∧
    (Samples (runIn .leadIn) false (leadingIn .leadIn 1200 (-150)) ∧
      (leadingIn .leadIn 1200 (-150)).hole? 127 = some pinLive ∧
      (leadingIn .leadIn 1200 (-150)).cfg.pathTol <
        (walk pinLive.legs false (leadingIn .leadIn 0 0).cfg.pathTol ⟨1200, -150⟩ 4 0).dev ∧
      min 255 ((leadingIn .leadIn 1200 (-150)).prog.offPath + 1) < (leadingIn .leadIn 1200 (-150)).cfg.offpathLimit) ∧
    ({ cutting with sampling := .abandoned } : State).sampling = .abandoned ∧
    (awaiting.sampling = .none ∧ ∀ run, awaiting.run = some run → run.phase.tracking = false) :=
  ⟨⟨samples_of rfl rfl rfl rfl rfl, by decide⟩, ⟨samples_in_progress rfl rfl rfl rfl, by decide⟩,
    ⟨samples_of rfl rfl rfl rfl rfl, by decide⟩, rfl, rfl, of_some (w := runIn .awaitThread) rfl rfl⟩

theorem witness_LoopSampleMovesTheFrontier :
    (let s := cuttingAt 700 0 true .first
     let w := walk squareLive.legs true s.cfg.pathTol s.pos 4 s.prog.seg
     s.resetLow = false ∧ s.sampling = .none ∧ s.available = true ∧ s.prog.path = .loop ∧
       s.contour? 63 = some squareLive ∧ w.capped = false ∧ w.dev ≤ s.cfg.pathTol ∧
       reachedPos squareLive w = 700 ∧ s.encoderCond = false ∧ s.gap.violation = false ∧ s.gap.presence = true) ∧
    (cuttingAt 700 0 false .first).gap.presence = false ∧
    (let s := cuttingAt 700 200 true .first
     reachedPos squareLive (walk squareLive.legs true s.cfg.pathTol s.pos 4 s.prog.seg) = 700 ∧ s.prog.a = 200) ∧
    (let s := cuttingAt 700 0 true .skim
     s.run.map (·.kind) = some .skim ∧
       (walk squareLive.legs true s.cfg.pathTol s.pos 4 s.prog.seg).capped = false) := by decide

theorem witness_LoopSampleMovesTheFrontier_samples :
    Samples (runIn .cutting) false (cuttingAt 700 0 false .first) ∧
      Samples (runIn .cutting) true (sampled (cuttingAt 700 0 false .first)) :=
  ⟨samples_of rfl rfl rfl rfl rfl, samples_in_progress rfl rfl rfl rfl⟩

theorem witness_LoopSampleTestsPhaseAndWarn :
    (let s := cuttingAt 700 0 true .first
     let w := walk squareLive.legs true s.cfg.pathTol s.pos 4 s.prog.seg
     Samples (runIn .cutting) true s ∧ NothingStands s ∧ s.available = true ∧ s.contour? 63 = some squareLive ∧
       w.capped = false ∧ w.dev ≤ s.cfg.pathTol) ∧
    (let s := approaching
     let w := walk squareLive.legs true s.cfg.pathTol s.pos 4 s.prog.seg
     Samples (runIn .approach) false s ∧ NothingStands s ∧ s.available = true ∧ s.contour? 63 = some squareLive ∧
       w.capped = false ∧ w.dev ≤ s.cfg.pathTol) :=
  ⟨⟨samples_of rfl rfl rfl rfl rfl, ⟨by decide, rfl⟩, by decide⟩, samples_of rfl rfl rfl rfl rfl, ⟨by decide, rfl⟩,
    by decide⟩

theorem test_approach_ends_and_stop_point_is_reached :
    (after (exec .progressSample approaching) approaching).run.map (·.phase) = some .cutting ∧
      (let s := cuttingAt 900 0 true .first
       let s' := { s with run := some { runIn .cutting with stop := 400 } }
       (after (exec .progressSample s') s').run.map (fun r => (r.phase, r.warn)) = some (.atLimit, true)) := by decide

theorem witness_LeadInSampleEntersTheLoop :
    (let s := leadingIn .leadIn 500 (-100)
     let w := walk pinLive.legs false s.cfg.pathTol s.pos 4 s.prog.seg
     Samples (runIn .leadIn) false s ∧ s.available = true ∧ s.contour? 63 = some squareLive ∧
       s.hole? 127 = some pinLive ∧ w.capped = false ∧ w.dev ≤ s.cfg.pathTol ∧ w.along = 200) ∧
    (let s := leadingIn .leadIn 500 20
     let w := walk pinLive.legs false s.cfg.pathTol s.pos 4 s.prog.seg
     Samples (runIn .leadIn) false s ∧ NothingStands s ∧ w.capped = false ∧ w.dev ≤ s.cfg.pathTol ∧
       w.seg + 1 = pinLive.legs.length ∧ ((legAt pinLive.legs w.seg).len : Int) ≤ w.along) :=
  ⟨⟨samples_of rfl rfl rfl rfl rfl, by decide⟩, samples_of rfl rfl rfl rfl rfl, ⟨by decide, rfl⟩, by decide⟩

theorem test_lead_in_is_cut_at_loop_entry :
    (let s := leadingIn .leadIn 500 20
     let t := after (exec .progressSample s) s
     (t.hole? 127).map (·.lv.leadInCut) = some true ∧ t.prog.path = .loop ∧ t.run.map (·.phase) = some .cutting) := by
  decide

theorem witness_TraceRecordsAreFormedAndRead :
    (let s := traced 63
     Samples (runIn .cutting) true s ∧ s.trace.decimation + 1 = s.cfg.traceDecimation ∧ s.trace.fifo.length < 64 ∧
       s.trace.fifo.length < s.cfg.traceThreshold ∧ s.cfg.traceThreshold ≤ s.trace.fifo.length + 1) ∧
    (let s := traced 64
     Samples (runIn .cutting) true s ∧ 64 ≤ s.trace.fifo.length) ∧
    (ConfigRecord.reset.traceDecimation ≠ Trace.reset.decimation + 1 ∧
      Samples (runIn .cutting) true (cuttingAt 700 0 true .first)) ∧
    Serves .cell .traceRead ready :=
  ⟨⟨samples_of rfl rfl rfl rfl rfl, by decide⟩, ⟨samples_of rfl rfl rfl rfl rfl, by decide⟩,
    ⟨by decide, samples_of rfl rfl rfl rfl rfl⟩, serves_of (by decide)⟩

theorem witness_ProjectionRoundsByFloor :
    (let g : Leg := ⟨⟨-8388608, 0⟩, ⟨8388607, 0⟩, 16777215⟩
     1 ≤ g.len ∧ (g.b.x - g.a.x).natAbs < 2 ^ 24 ∧ (g.b.y - g.a.y).natAbs < 2 ^ 24 ∧ g.len = segLength g.a g.b) ∧
    1 ≤ (⟨⟨0, 0⟩, ⟨1, 0⟩, 1⟩ : Leg).len := by decide

/-- Example 3-2's square, and points about its corner V1. -/
def loop4 : List Leg :=
  [⟨⟨0, 0⟩, ⟨10000, 0⟩, 10000⟩, ⟨⟨10000, 0⟩, ⟨10000, 10000⟩, 10000⟩, ⟨⟨10000, 10000⟩, ⟨0, 10000⟩, 10000⟩,
    ⟨⟨0, 10000⟩, ⟨0, 0⟩, 10000⟩]

/-- Forward, dead zone on both sides of the corner, back, hand-over forward and back, and off the path; on a lead-in no
forward test on the last segment, and the hand-over from its first (log 19). -/
theorem test_step_tests :
    stepTest loop4 true 500 ⟨10040, 30⟩ 0 = .to 1 ∧ stepTest loop4 true 500 ⟨10030, -20⟩ 0 = .stop 10000 ∧
      stepTest loop4 true 500 ⟨10030, -20⟩ 1 = .stop 0 ∧ stepTest loop4 true 500 ⟨9000, -20⟩ 1 = .to 0 ∧
      stepTest loop4 true 500 ⟨9990, 600⟩ 0 = .to 1 ∧ stepTest loop4 true 500 ⟨9000, 10⟩ 1 = .to 0 ∧
      stepTest loop4 true 500 ⟨5000, 5000⟩ 0 = .stop 5000 ∧ stepTest loop4 true 500 ⟨5000, 100⟩ 0 = .stop 5000 ∧
      stepTest loop4 false 500 ⟨0, -30⟩ 3 = .stop 10030 ∧ stepTest loop4 false 500 ⟨-30, 0⟩ 0 = .stop 0 ∧
      stepTest [⟨⟨0, 0⟩, ⟨10, 0⟩, 10⟩, ⟨⟨10, 0⟩, ⟨-10, 20⟩, 28⟩] false 2 ⟨-3, 13⟩ 0 = .to 1 := by decide

/-- The fifth step is not made. -/
theorem test_walk_is_capped :
    (let legs : List Leg := (List.range 6).map (fun i => ⟨⟨(i : Int), 0⟩, ⟨(i : Int) + 1, 0⟩, 1⟩)
     walk legs false 0 ⟨6, 0⟩ 4 0 = ⟨4, 2, 0, true⟩ ∧ walk legs false 0 ⟨5, 0⟩ 4 0 = ⟨4, 1, 0, false⟩) := by decide

theorem witness_RunDistanceInvertsLoopPosition : 0 < square.computed.loopLen ∧ 3999 < square.computed.loopLen := by
  decide

theorem witness_CoverageListHoldsExactlyTheCutCells :
    (coverageWf 4000 0 [⟨0, 500⟩, ⟨3900, 4000⟩] = true ∧ 0 < 4000 ∧ 4000 ≤ 4000) ∧
      uncovered 4000 [⟨100, 500⟩, ⟨600, 3900⟩] = [⟨500, 100⟩, ⟨3900, 200⟩] ∧
      (coverageWf 4000 0 [⟨100, 500⟩, ⟨501, 3900⟩] = true ∧ 0 < 4000) ∧ coverageWf 1 0 [] = true := by decide

/-- The square with an implied tab beside its declared one. -/
def impliedTab (cov : List Span) : Contour :=
  { squareLive with live := some { ContourLive.start with coverage := cov, implied := some ⟨3900, 200⟩ } }

theorem witness_LimitsAreLeastRunDistances :
    (let c := impliedTab [⟨500, 600⟩]
     coverageWf c.g.loopLen 0 c.lv.coverage = true ∧ 0 < c.g.loopLen ∧ 4000 ≤ c.g.loopLen ∧
       ∀ tab ∈ c.protectedTabs, tab.first < c.g.loopLen ∧ 0 < tab.len ∧ tab.len ≤ c.g.loopLen) ∧
    (let c := squareWith [⟨0, 4000⟩] false false false
     coverageWf c.g.loopLen 0 c.lv.coverage = true ∧ 0 < c.g.loopLen) ∧
    (cutting.run = some (runIn .cutting) ∧ cutting.contour? 63 = some squareLive) := by decide

/-- FIRST stops before the implied tab in both directions; RELEASE is held back without a catch, final with one. -/
theorem test_limits :
    computeLimits .first 500 .rev (impliedTab []) false 50 0 = ⟨400, 350, false, false, 0⟩ ∧
      computeLimits .first 500 .fwd (impliedTab [⟨500, 3000⟩]) false 50 2500 = ⟨3400, 3350, false, false, 0⟩ ∧
      computeLimits .release 500 .fwd (squareWith [⟨0, 2400⟩, ⟨2600, 4000⟩] false false false) false 50 1900 =
        ⟨2000, 1950, false, true, 100⟩ ∧
      computeLimits .release 500 .fwd (squareWith [⟨0, 2400⟩, ⟨2600, 4000⟩] false false false) true 50 1900 =
        ⟨2100, 2100, true, false, 0⟩ := by decide

end Sys2Proof.Tests
end

section
/-! SUPPORT. The Axis Decoder, POSITION_READ, ZERO_SET and CONFIG_WRITE: what the shared operations keep on the links
and in the other blocks, what an ENCODER posting does, and the statements settled from these rules. -/

namespace Sys2Proof.AxisPosition

open Sys2Proof.Machine Sys2Proof.Safety

/-! ### Axes -/

@[simp] theorem setAxis_axis_same (s : State) (a : Axis) (v : Channel) : (s.setAxis a v).axis a = v := by
  cases a <;> rfl

theorem setAxis_axis_other (s : State) {a o : Axis} (v : Channel) (h : o ≠ a) : (s.setAxis a v).axis o = s.axis o := by
  cases a <;> cases o <;> simp_all [State.axis, State.setAxis]

@[simp] theorem setAxis_link (s : State) (a : Axis) (v : Channel) (l : Link) : (s.setAxis a v).link l = s.link l := by
  cases a <;> cases l <;> rfl

/-- A channel of a state is one of its two. -/
theorem axis_of_eq {s t : State} (hx : t.axisX = s.axisX) (hy : t.axisY = s.axisY) (a : Axis) :
    t.axis a = s.axis a := by
  cases a
  · exact hx
  · exact hy

/-- A suspect channel makes the ENCODER condition stand (R31, R33). -/
theorem encoderCond_setAxis_of_suspect (s : State) (a : Axis) (v : Channel) (h : v.suspect = true) :
    (s.setAxis a v).encoderCond = true := by
  cases a <;> simp [State.setAxis, State.encoderCond, State.suspect, h]

/-- A line fault on a channel makes the ENCODER condition stand (R33). -/
theorem encoderCond_of_fault (s : State) (a : Axis) (h : (s.axis a).fault = true) : s.encoderCond = true := by
  cases a <;> simp_all [State.axis, State.encoderCond, State.lineFault]

/-! ### What is kept: links, queue, lines and device -/

theorem kept_refl (s : State) : Kept s s := ⟨rfl, rfl, rfl, rfl, rfl, rfl, rfl, fun _ => rfl⟩

theorem linksKept_trans {s t u : State} (hst : LinksKept s t) (htu : LinksKept t u) : LinksKept s u := fun l =>
  (htu l).trans (by rw [hst l])

theorem kept_trans {s t u : State} (hst : Kept s t) (htu : Kept t u) : Kept s u := by
  obtain ⟨a, b, c, d, e, f, g, hl⟩ := hst
  obtain ⟨a', b', c', d', e', f', g', hl'⟩ := htu
  exact ⟨a'.trans a, b'.trans b, c'.trans c, d'.trans d, e'.trans e, f'.trans f, g'.trans g, linksKept_trans hl hl'⟩

/-- A posting writes a link's pending events at most. -/
theorem posted_eq (k : LinkState) (l : Link) (e : Event) : k.posted l e = { k with raw := (k.posted l e).raw } := by
  unfold LinkState.posted
  split <;> rfl

theorem kept_post (e : Event) (s : State) : Kept s (post e s) :=
  ⟨rfl, rfl, rfl, rfl, rfl, rfl, rfl, fun l => by rw [post_link, posted_eq]⟩

theorem kept_drive (s : State) : Kept s (drive s) :=
  ⟨rfl, rfl, rfl, rfl, rfl, rfl, rfl, fun l => by rw [drive_link]⟩

theorem kept_setAxis (s : State) (a : Axis) (v : Channel) : Kept s (s.setAxis a v) :=
  ⟨by simp, by simp, by simp, by simp, by simp, by simp, by simp, fun l => by rw [setAxis_link]⟩

/-- What changes the three links alone in their request in progress keeps the rest of them. -/
theorem kept_answerWith (l : Link) (r k tag : Byte) (body : List Byte) (s : State) :
    Kept s (answerWith l r k tag body s) :=
  ⟨by simp, by simp, by simp, by simp, by simp, by simp, by simp, fun m => by cases l <;> cases m <;> rfl⟩

theorem kept_replied (l : Link) (k : Req) (tag : Byte) (body : List Byte) (s : State) :
    Kept s (replied l k tag body s) := kept_answerWith ..

/-! ### Halts (R73) -/

/-- A halt writes the halt on the run record, and posts HALT and RUN_PHASE (R64, R73). -/
theorem haltRun_run (c : Causes) {s : State} {run : Run} (h : s.run = some run) :
    (haltRun c s).run = some { run with phase := .halted, halt := some ⟨c, run.phase⟩ } := by
  simp [haltRun, h, setPhase, Phase.judged]

theorem haltRun_link (c : Causes) {s : State} {run : Run} (h : s.run = some run) (l : Link) :
    (haltRun c s).link l =
      ((s.link l).posted l (.halt run.number c run.phase)).posted l (.runPhase run.number (.phase .halted)) := by
  cases l <;> simp [haltRun, h, setPhase, Phase.judged, post, State.link]

/-- What a halt cause can do: nothing, a halt of a run in one of the four phases, or one HALT posting for the causes of
a halted run (R73, R74). -/
theorem arise_cases (c : Causes) (s : State) :
    arise c s = s ∨
    (∃ run, s.run = some run ∧ run.phase.tracking = true ∧ arise c s = haltRun c s) ∨
    (∃ r e, e.bit = 6 ∧ arise c s = post e { s with run := r }) := by
  unfold arise
  split
  · exact .inl rfl
  · rename_i run hrun
    split
    · rename_i ht
      exact .inr (.inl ⟨run, hrun, ht, rfl⟩)
    · split
      · dsimp only
        split
        · exact .inl rfl
        · exact .inr (.inr ⟨_, _, rfl, rfl⟩)
      · exact .inl rfl

theorem arise_of_tracking (c : Causes) {s : State} {run : Run} (h : s.run = some run)
    (ht : run.phase.tracking = true) : arise c s = haltRun c s := by
  simp [arise, h, ht]

theorem arise_of_no_run (c : Causes) {s : State} (h : s.run = none) : arise c s = s := by
  simp [arise, h]

/-- A halt cause posts HALT and RUN_PHASE at most. -/
theorem get?_raw_arise (c : Causes) (s : State) (l : Link) {b : Nat} (h0 : b ≠ 0) (h6 : b ≠ 6) :
    Table.get? ((arise c s).link l).raw b = Table.get? (s.link l).raw b := by
  obtain h | ⟨run, hrun, -, h⟩ | ⟨r, e, he, h⟩ := arise_cases c s
  · rw [h]
  · rw [h, haltRun_link c hrun, get?_posted_other _ _ _ _ h0, get?_posted_other _ _ _ _ h6]
  · rw [h, post_link, get?_posted_other _ _ _ _ (by rw [he]; exact h6)]
    cases l <;> rfl

theorem kept_haltRun (c : Causes) {s : State} {run : Run} (h : s.run = some run) : Kept s (haltRun c s) :=
  ⟨by simp, by simp, by simp, by simp, by simp, by simp, by simp, fun l => by
    rw [haltRun_link c h, posted_eq, posted_eq (s.link l)]⟩

theorem kept_arise (c : Causes) (s : State) : Kept s (arise c s) := by
  obtain h | ⟨run, hrun, -, h⟩ | ⟨r, e, -, h⟩ := arise_cases c s
  · rw [h]; exact kept_refl s
  · rw [h]; exact kept_haltRun c hrun
  · rw [h]
    exact kept_trans (t := { s with run := r }) (kept_refl s) (kept_post e _)

/-! ### The other blocks -/

/-- What an event of the Axis Decoder leaves alone: every other block but the Run Controller and the Gap Monitor, and
what is kept on the links. -/
def OthersKept (s t : State) : Prop :=
  t.plate = s.plate ∧ t.prog = s.prog ∧ t.cfg = s.cfg ∧ t.planner = s.planner ∧ t.catchSet = s.catchSet ∧
    t.trace = s.trace ∧ HistoryKept s t ∧ Kept s t

theorem othersKept_trans {s t u : State} (hst : OthersKept s t) (htu : OthersKept t u) : OthersKept s u := by
  obtain ⟨a, b, c, d, e, f, ⟨g, h⟩, hk⟩ := hst
  obtain ⟨a', b', c', d', e', f', ⟨g', h'⟩, hk'⟩ := htu
  exact ⟨a'.trans a, b'.trans b, c'.trans c, d'.trans d, e'.trans e, f'.trans f, ⟨g'.trans g, h'.trans h⟩,
    kept_trans hk hk'⟩

theorem othersKept_post (e : Event) (s : State) : OthersKept s (post e s) :=
  ⟨rfl, rfl, rfl, rfl, rfl, rfl, ⟨rfl, rfl⟩, kept_post e s⟩

theorem othersKept_drive (s : State) : OthersKept s (drive s) :=
  ⟨rfl, rfl, rfl, rfl, rfl, rfl, ⟨rfl, rfl⟩, kept_drive s⟩

theorem othersKept_setAxis (s : State) (a : Axis) (v : Channel) : OthersKept s (s.setAxis a v) :=
  ⟨by simp, by simp, by simp, by simp, by simp, by simp, ⟨by simp, by simp⟩, kept_setAxis s a v⟩

theorem othersKept_arise (c : Causes) (s : State) : OthersKept s (arise c s) :=
  ⟨by simp, by simp, by simp, by simp, by simp, by simp, ⟨by simp, by simp⟩, kept_arise c s⟩

/-! ### ENCODER (R33, R34) -/

/-- The halt cause ENCODER alone. -/
def encoderCause : Causes := ⟨false, true, false, false, false⟩

/-- Where the condition stood before, a change of the lines posts ENCODER and no cause arises. -/
theorem encoderEvent_of_stood (cause : EncCause) (axis : Axis) (s : State) :
    encoderEvent cause axis true s = drive (postEncoder cause (encChannel axis) s) := rfl

/-- Where the condition begins, ENCODER is posted and the halt cause arises. -/
theorem encoderEvent_of_begins (cause : EncCause) (axis : Axis) {s : State} (h : s.encoderCond = true) :
    encoderEvent cause axis false s = drive (arise encoderCause (postEncoder cause (encChannel axis) s)) := by
  have hp : (postEncoder cause (encChannel axis) s).encoderCond = true := h
  simp [encoderEvent, hp, encoderCause, Causes.none]

theorem encoderEvent_cases (cause : EncCause) (axis : Axis) (stood : Bool) (s : State) :
    encoderEvent cause axis stood s = drive (postEncoder cause (encChannel axis) s) ∨
    encoderEvent cause axis stood s = drive (arise encoderCause (postEncoder cause (encChannel axis) s)) := by
  dsimp only [encoderEvent]
  split
  · exact .inr rfl
  · exact .inl rfl

theorem othersKept_encoderEvent (cause : EncCause) (axis : Axis) (stood : Bool) (s : State) :
    OthersKept s (encoderEvent cause axis stood s) := by
  have hp : OthersKept s (postEncoder cause (encChannel axis) s) := othersKept_post _ s
  obtain h | h := encoderEvent_cases cause axis stood s
  · rw [h]; exact othersKept_trans hp (othersKept_drive _)
  · rw [h]; exact othersKept_trans hp (othersKept_trans (othersKept_arise _ _) (othersKept_drive _))

@[simp] theorem encoderEvent_axisX (cause : EncCause) (axis : Axis) (stood : Bool) (s : State) :
    (encoderEvent cause axis stood s).axisX = s.axisX := by
  obtain h | h := encoderEvent_cases cause axis stood s <;> simp [h, postEncoder]

@[simp] theorem encoderEvent_axisY (cause : EncCause) (axis : Axis) (stood : Bool) (s : State) :
    (encoderEvent cause axis stood s).axisY = s.axisY := by
  obtain h | h := encoderEvent_cases cause axis stood s <;> simp [h, postEncoder]

@[simp] theorem encoderEvent_axis (cause : EncCause) (axis : Axis) (stood : Bool) (s : State) (a : Axis) :
    (encoderEvent cause axis stood s).axis a = s.axis a := axis_of_eq (by simp) (by simp) a

/-- ENCODER stands on the Motion Link and the Cell Link after a posting of it (Table 10-2). -/
theorem get?_raw_postEncoder (cause : EncCause) (channel : EncChannel) (s : State) {l : Link}
    (hl : l = .motion ∨ l = .cell) :
    Table.get? ((postEncoder cause channel s).link l).raw 9 =
      some (.encoder s.axisX.latches s.axisY.latches cause channel) := by
  have hr : (routed l).getLsbD 9 = true := by rcases hl with rfl | rfl <;> decide
  rw [postEncoder, post_link]
  exact get?_posted_same (s.link l) l (.encoder s.axisX.latches s.axisY.latches cause channel) hr (by simp [Event.bit])

/-- ENCODER stands with the latches after the change (R34). -/
theorem get?_raw_encoderEvent (cause : EncCause) (axis : Axis) (stood : Bool) (s : State) {l : Link}
    (hl : l = .motion ∨ l = .cell) :
    Table.get? ((encoderEvent cause axis stood s).link l).raw 9 =
      some (.encoder (encoderEvent cause axis stood s).axisX.latches (encoderEvent cause axis stood s).axisY.latches
        cause (encChannel axis)) := by
  rw [encoderEvent_axisX, encoderEvent_axisY]
  obtain h | h := encoderEvent_cases cause axis stood s
  · rw [h, drive_raw, get?_raw_postEncoder _ _ _ hl]
  · rw [h, drive_raw, get?_raw_arise _ _ _ (by decide) (by decide), get?_raw_postEncoder _ _ _ hl]

/-- A condition that begins halts a run in one of the four phases (R73). -/
theorem encoderEvent_halts (cause : EncCause) (axis : Axis) {s : State} {run : Run} (hc : s.encoderCond = true)
    (hrun : s.run = some run) (ht : run.phase.tracking = true) :
    ∃ r, (encoderEvent cause axis false s).run = some r ∧ r.phase = .halted ∧
      r.halt = some ⟨encoderCause, run.phase⟩ := by
  have hp : (postEncoder cause (encChannel axis) s).run = some run := hrun
  rw [encoderEvent_of_begins cause axis hc, drive_run, arise_of_tracking _ hp ht, haltRun_run _ hp]
  exact ⟨_, rfl, rfl, rfl⟩

theorem encoderEvent_run_of_none (cause : EncCause) (axis : Axis) (stood : Bool) {s : State} (h : s.run = none) :
    (encoderEvent cause axis stood s).run = none := by
  have hp : (postEncoder cause (encChannel axis) s).run = none := h
  obtain he | he := encoderEvent_cases cause axis stood s
  · rw [he, drive_run, hp]
  · rw [he, drive_run, arise_of_no_run _ hp, hp]

/-! ### A channel that becomes suspect -/

/-- What an event that leaves a channel suspect does: the channel's new value, ENCODER with the latches after it, a halt
of a run in one of the four phases where the condition begins, no run opened, and nothing else (R27, R29, R34, R73). -/
theorem encoderEvent_of_suspect (cause : EncCause) (axis : Axis) (v : Channel) (s : State) (hv : v.suspect = true) :
    let t := encoderEvent cause axis s.encoderCond (s.setAxis axis v)
    t.axis axis = v ∧ (∀ o, o ≠ axis → t.axis o = s.axis o) ∧
      (∀ l, l = .motion ∨ l = .cell → Table.get? (t.link l).raw 9 =
        some (.encoder t.axisX.latches t.axisY.latches cause (encChannel axis))) ∧
      (∀ run, s.run = some run → run.phase.tracking = true → s.encoderCond = false →
        ∃ r, t.run = some r ∧ r.phase = .halted ∧ r.halt = some ⟨encoderCause, run.phase⟩) ∧
      (s.run = none → t.run = none) ∧ OthersKept s t := by
  refine ⟨by simp, fun o ho => ?_, fun l hl => get?_raw_encoderEvent _ _ _ _ hl, fun run hrun ht hc => ?_,
    fun h => encoderEvent_run_of_none _ _ _ (by simpa using h),
    othersKept_trans (othersKept_setAxis s axis v) (othersKept_encoderEvent _ _ _ _)⟩
  · rw [encoderEvent_axis, setAxis_axis_other s v ho]
  · rw [hc]
    exact encoderEvent_halts cause axis (encoderCond_setAxis_of_suspect s axis v hv) (by simpa using hrun) ht

/-! ### Observations (R25 to R27) -/

/-- An observation with both pairs at the other level is illegal (R26). -/
theorem observe_of_both_changed (a b : Bool) : observe (some (!a, !b)) (a, b) = .illegal := by
  cases a <;> cases b <;> rfl

@[simp] theorem observe_none (levels : Bool × Bool) : observe none levels = .first := rfl

@[simp] theorem observe_same (levels : Bool × Bool) : observe (some levels) levels = .same := by
  simp [observe]

theorem observed_of_first {c : Channel} {levels : Bool × Bool} (h : observe c.quad levels = .first) :
    c.observed levels = { c with quad := some levels } := by
  simp [Channel.observed, h]

theorem observed_of_same {c : Channel} {levels : Bool × Bool} (h : observe c.quad levels = .same) :
    c.observed levels = c := by
  simp [Channel.observed, h]

theorem observed_of_forward {c : Channel} {levels : Bool × Bool} (h : observe c.quad levels = .forward) :
    c.observed levels = { c with quad := some levels, count := c.count + 1 } := by
  simp [Channel.observed, h]

theorem observed_of_reverse {c : Channel} {levels : Bool × Bool} (h : observe c.quad levels = .reverse) :
    c.observed levels = { c with quad := some levels, count := c.count - 1 } := by
  simp [Channel.observed, h]

theorem observed_of_illegal {c : Channel} {levels : Bool × Bool} (h : observe c.quad levels = .illegal) :
    c.observed levels = { c with quad := some levels, skip := true, suspect := true } := by
  simp [Channel.observed, h]

@[simp] theorem observed_lastA (c : Channel) (levels : Bool × Bool) : (c.observed levels).lastA = c.lastA := by
  unfold Channel.observed
  split <;> rfl

@[simp] theorem observed_lastB (c : Channel) (levels : Bool × Bool) : (c.observed levels).lastB = c.lastB := by
  unfold Channel.observed
  split <;> rfl

/-- The forward rows of Table 2-2. -/
theorem observe_of_forward_row {q : Option (Bool × Bool)} {a b : Bool}
    (h : (q, a, b) ∈ [(some (false, false), true, false), (some (true, false), true, true),
      (some (true, true), false, true), (some (false, true), false, false)]) : observe q (a, b) = .forward := by
  simp only [List.mem_cons, List.not_mem_nil, or_false, Prod.mk.injEq] at h
  rcases h with ⟨rfl, rfl, rfl⟩ | ⟨rfl, rfl, rfl⟩ | ⟨rfl, rfl, rfl⟩ | ⟨rfl, rfl, rfl⟩ <;> rfl

/-- The reverse rows of Table 2-2. -/
theorem observe_of_reverse_row {q : Option (Bool × Bool)} {a b : Bool}
    (h : (q, a, b) ∈ [(some (false, false), false, true), (some (true, false), false, false),
      (some (true, true), true, false), (some (false, true), true, true)]) : observe q (a, b) = .reverse := by
  simp only [List.mem_cons, List.not_mem_nil, or_false, Prod.mk.injEq] at h
  rcases h with ⟨rfl, rfl, rfl⟩ | ⟨rfl, rfl, rfl⟩ | ⟨rfl, rfl, rfl⟩ | ⟨rfl, rfl, rfl⟩ <;> rfl

/-! ### QUADRATURE_STEP -/

theorem exec_quadratureStep (axis : Axis) (a b : Option Bool) (s : State) :
    exec (.quadratureStep axis a b) s = .next (quadratureStep axis a b s) := rfl

theorem quadratureStep_of_fault (axis : Axis) (a b : Option Bool) {s : State} (hr : s.resetLow = false)
    (hf : (s.axis axis).fault = true) :
    quadratureStep axis a b s = s.setAxis axis ((s.axis axis).seen a b) := by
  simp [quadratureStep, hr, hf]

theorem quadratureStep_of_legal (axis : Axis) (a b : Bool) {s : State} (hr : s.resetLow = false)
    (hf : (s.axis axis).fault = false) (ho : observe (s.axis axis).quad (a, b) ≠ .illegal) :
    quadratureStep axis (some a) (some b) s =
      s.setAxis axis (((s.axis axis).seen (some a) (some b)).observed (a, b)) := by
  simp [quadratureStep, hr, hf, pairLevel_of_valid, ho]

theorem quadratureStep_of_illegal (axis : Axis) (a b : Bool) {s : State} (hr : s.resetLow = false)
    (hf : (s.axis axis).fault = false) (ho : observe (s.axis axis).quad (a, b) = .illegal) :
    quadratureStep axis (some a) (some b) s =
      encoderEvent .skip axis s.encoderCond
        (s.setAxis axis (((s.axis axis).seen (some a) (some b)).observed (a, b))) := by
  simp [quadratureStep, hr, hf, pairLevel_of_valid, ho]

/-- The channel holds the levels it was observed at, whatever the observation was. -/
theorem quadratureStep_keeps_levels (axis : Axis) (a b : Bool) {s : State} (hr : s.resetLow = false) :
    ((quadratureStep axis (some a) (some b) s).axis axis).lastA = some a ∧
      ((quadratureStep axis (some a) (some b) s).axis axis).lastB = some b := by
  cases hf : (s.axis axis).fault with
  | true => simp [quadratureStep_of_fault axis _ _ hr hf]
  | false =>
    by_cases ho : observe (s.axis axis).quad (a, b) = .illegal
    · simp [quadratureStep_of_illegal axis a b hr hf ho]
    · simp [quadratureStep_of_legal axis a b hr hf ho]

/-- A pair with a last valid level has a level. -/
theorem pairLevel_of_known (a : Option Bool) (p : Bool) (s : State) : pairLevel a (some p) s = (a.getD p, s) := by
  cases a <;> rfl

/-- A pair has a level, the one received or its last valid one where it has either; at most a free value is taken. -/
theorem pairLevel_eq (a last : Option Bool) (s : State) :
    ∃ p n, pairLevel a last s = (p, { s with freeCount := n }) ∧
      ∀ x, a = some x ∨ (a = none ∧ last = some x) → p = x := by
  cases a with
  | some v => exact ⟨v, s.freeCount, rfl, by simp⟩
  | none =>
    cases last with
    | some v => exact ⟨v, s.freeCount, rfl, by simp⟩
    | none => exact ⟨_, _, rfl, by simp⟩

/-- An invalid pair is seen at its last valid level (R27). -/
theorem seen_of_known {c : Channel} {p q : Bool} (a b : Option Bool) (ha : c.lastA = some p) (hb : c.lastB = some q) :
    c.seen a b = c.seen (some (a.getD p)) (some (b.getD q)) := by
  cases a <;> cases b <;> simp [Channel.seen, ha, hb]

theorem quadratureStep_of_known (axis : Axis) (a b : Option Bool) {p q : Bool} {s : State}
    (ha : (s.axis axis).lastA = some p) (hb : (s.axis axis).lastB = some q) :
    quadratureStep axis a b s = quadratureStep axis (some (a.getD p)) (some (b.getD q)) s := by
  simp only [quadratureStep, ha, hb, pairLevel_of_known, seen_of_known a b ha hb, Option.getD_some]

/-- Where the pairs have levels, the step is the one at these levels in the state they leave. -/
theorem quadratureStep_of_pairLevels (axis : Axis) {a b : Option Bool} {p q : Bool} {s t u : State}
    (hr : s.resetLow = false) (hf : (s.axis axis).fault = false)
    (hp : pairLevel a (s.axis axis).lastA s = (p, t)) (hq : pairLevel b (s.axis axis).lastB t = (q, u))
    (hur : u.resetLow = false) (hua : u.axis axis = s.axis axis) (huc : u.encoderCond = s.encoderCond) :
    quadratureStep axis a b s = quadratureStep axis (some p) (some q) u := by
  simp [quadratureStep, hr, hf, hp, hq, hur, hua, huc, pairLevel_of_valid]

/-- An observation outside a line fault is one at two valid levels: those received, or the last valid ones; at most free
values are taken (R27, log 8). -/
theorem quadratureStep_of_levels (axis : Axis) (a b : Option Bool) {s : State} (hf : (s.axis axis).fault = false) :
    ∃ (p q : Bool) (n : Nat),
      (∀ x, a = some x ∨ (a = none ∧ (s.axis axis).lastA = some x) → p = x) ∧
      (∀ x, b = some x ∨ (b = none ∧ (s.axis axis).lastB = some x) → q = x) ∧
      (s.resetLow = false →
        quadratureStep axis a b s = quadratureStep axis (some p) (some q) { s with freeCount := n }) := by
  obtain ⟨p, m, hp, hpx⟩ := pairLevel_eq a (s.axis axis).lastA s
  obtain ⟨q, n, hq, hqx⟩ := pairLevel_eq b (s.axis axis).lastB { s with freeCount := m }
  exact ⟨p, q, n, hpx, hqx, fun hr =>
    quadratureStep_of_pairLevels axis hr hf hp hq hr (axis_of_eq rfl rfl axis) rfl⟩

/-! #### The cases of a step at two valid levels -/

theorem quadratureStep_of_first (axis : Axis) (a b : Bool) {s : State} (hr : s.resetLow = false)
    (hf : (s.axis axis).fault = false) (ho : observe (s.axis axis).quad (a, b) = .first) :
    quadratureStep axis (some a) (some b) s =
      s.setAxis axis { (s.axis axis).seen (some a) (some b) with quad := some (a, b) } := by
  rw [quadratureStep_of_legal axis a b hr hf (by simp [ho]), observed_of_first (c := (s.axis axis).seen _ _) ho]

theorem quadratureStep_of_same (axis : Axis) (a b : Bool) {s : State} (hr : s.resetLow = false)
    (hf : (s.axis axis).fault = false) (ho : observe (s.axis axis).quad (a, b) = .same) :
    quadratureStep axis (some a) (some b) s = s.setAxis axis ((s.axis axis).seen (some a) (some b)) := by
  rw [quadratureStep_of_legal axis a b hr hf (by simp [ho]), observed_of_same (c := (s.axis axis).seen _ _) ho]

theorem quadratureStep_of_forward (axis : Axis) (a b : Bool) {s : State} (hr : s.resetLow = false)
    (hf : (s.axis axis).fault = false) (ho : observe (s.axis axis).quad (a, b) = .forward) :
    quadratureStep axis (some a) (some b) s =
      s.setAxis axis { (s.axis axis).seen (some a) (some b) with
        quad := some (a, b), count := (s.axis axis).count + 1 } := by
  rw [quadratureStep_of_legal axis a b hr hf (by simp [ho]), observed_of_forward (c := (s.axis axis).seen _ _) ho,
    seen_count]

theorem quadratureStep_of_reverse (axis : Axis) (a b : Bool) {s : State} (hr : s.resetLow = false)
    (hf : (s.axis axis).fault = false) (ho : observe (s.axis axis).quad (a, b) = .reverse) :
    quadratureStep axis (some a) (some b) s =
      s.setAxis axis { (s.axis axis).seen (some a) (some b) with
        quad := some (a, b), count := (s.axis axis).count - 1 } := by
  rw [quadratureStep_of_legal axis a b hr hf (by simp [ho]), observed_of_reverse (c := (s.axis axis).seen _ _) ho,
    seen_count]

/-- An illegal transition leaves the count, and is the ENCODER event of a channel with skip and suspect latch set. -/
theorem quadratureStep_of_both_changed (axis : Axis) (a b : Bool) {s : State} (hr : s.resetLow = false)
    (hf : (s.axis axis).fault = false) (hq : (s.axis axis).quad = some (!a, !b)) :
    quadratureStep axis (some a) (some b) s =
      encoderEvent .skip axis s.encoderCond (s.setAxis axis { (s.axis axis).seen (some a) (some b) with
        quad := some (a, b), skip := true, suspect := true }) := by
  have ho : observe (s.axis axis).quad (a, b) = .illegal := by rw [hq]; exact observe_of_both_changed a b
  rw [quadratureStep_of_illegal axis a b hr hf ho, observed_of_illegal (c := (s.axis axis).seen _ _) ho]

/-- Settles O29: every observation is one case of `observe`, and an illegal one leaves the channel suspect. -/
theorem quadratureStepCounts : Obligations.QuadratureStepCounts := by
  unfold Obligations.QuadratureStepCounts
  simp only [exec_quadratureStep]
  refine ⟨fun axis a b s hr => ⟨fun hf => ?fault, fun hf hq => ?first, fun hf hq => ?same, fun hf hq => ?forward,
    fun hf hq => ?reverse, fun hf hq => ?illegal⟩, fun axis a b s hr => ?levels,
    fun axis a b p q s ha hb => ?known, fun axis a b s hf => ?undecoded⟩
  case fault => rw [quadratureStep_of_fault axis _ _ hr hf]; rfl
  case first => rw [quadratureStep_of_first axis a b hr hf (by rw [hq, observe_none])]; rfl
  case same => rw [quadratureStep_of_same axis a b hr hf (by rw [hq, observe_same])]; rfl
  case forward => rw [quadratureStep_of_forward axis a b hr hf (observe_of_forward_row hq)]; rfl
  case reverse => rw [quadratureStep_of_reverse axis a b hr hf (observe_of_reverse_row hq)]; rfl
  case illegal =>
    rw [quadratureStep_of_both_changed axis a b hr hf hq]
    exact ⟨_, rfl, encoderEvent_of_suspect .skip axis _ s rfl⟩
  case levels => exact ⟨_, rfl, quadratureStep_keeps_levels axis a b hr⟩
  case known => rw [quadratureStep_of_known axis a b ha hb]
  case undecoded =>
    obtain ⟨p, q, n, hp, hq, h⟩ := quadratureStep_of_levels axis a b hf
    exact ⟨p, q, n, hp, hq, fun hr => by rw [h hr]⟩

/-! ### Line faults and index pulses (R27 to R29) -/

theorem exec_lineFaultBegin (axis : Axis) (s : State) : exec (.lineFaultBegin axis) s = .next (lineFaultBegin axis s) :=
  rfl

theorem exec_lineFaultEnd (axis : Axis) (s : State) : exec (.lineFaultEnd axis) s = .next (lineFaultEnd axis s) := rfl

theorem exec_indexPulse (axis : Axis) (s : State) : exec (.indexPulse axis) s = .next (indexPulse axis s) := rfl

theorem lineFaultBegin_of_none (axis : Axis) {s : State} (hr : s.resetLow = false)
    (hf : (s.axis axis).fault = false) :
    lineFaultBegin axis s = encoderEvent .faultBegin axis s.encoderCond
      (s.setAxis axis { s.axis axis with fault := true, suspect := true }) := by
  simp [lineFaultBegin, hr, hf]

/-- At the end of a line fault the ENCODER condition stands, so no halt cause arises. -/
theorem lineFaultEnd_of_present (axis : Axis) {s : State} (hr : s.resetLow = false)
    (hf : (s.axis axis).fault = true) :
    lineFaultEnd axis s = encoderEvent .faultEnd axis true
      (s.setAxis axis { s.axis axis with fault := false, quad := none, index := none }) := by
  simp [lineFaultEnd, hr, hf, encoderCond_of_fault s axis hf]

theorem indexAgrees_iff (count reference : BitVec 32) (pitch tol : Nat) :
    indexAgrees count reference pitch tol = true ↔
      (count - reference).toInt.natAbs ≤ tol ∨
        (((count - reference).toInt.natAbs : Int) - pitch).natAbs ≤ tol := by
  simp [indexAgrees]

theorem indexPulse_of_no_pitch (axis : Axis) {s : State} (hp : s.cfg.indexPitch axis = 0) : indexPulse axis s = s := by
  simp [indexPulse, hp]

section
variable (axis : Axis) {s : State}

theorem indexPulse_of_absent (hr : s.resetLow = false) (hf : (s.axis axis).fault = false)
    (hp : s.cfg.indexPitch axis ≠ 0) (hi : (s.axis axis).index = none) :
    indexPulse axis s = s.setAxis axis { s.axis axis with index := some (s.axis axis).count } := by
  simp [indexPulse, hr, hf, hp, hi]

theorem indexPulse_of_agrees {ref : BitVec 32} (hr : s.resetLow = false) (hf : (s.axis axis).fault = false)
    (hp : s.cfg.indexPitch axis ≠ 0) (hi : (s.axis axis).index = some ref)
    (ha : indexAgrees (s.axis axis).count ref (s.cfg.indexPitch axis) s.cfg.indexTol = true) :
    indexPulse axis s = s.setAxis axis { s.axis axis with index := some (s.axis axis).count } := by
  simp [indexPulse, hr, hf, hp, hi, ha]

theorem indexPulse_of_disagrees {ref : BitVec 32} (hr : s.resetLow = false) (hf : (s.axis axis).fault = false)
    (hp : s.cfg.indexPitch axis ≠ 0) (hi : (s.axis axis).index = some ref)
    (ha : indexAgrees (s.axis axis).count ref (s.cfg.indexPitch axis) s.cfg.indexTol = false) :
    indexPulse axis s = encoderEvent .index axis s.encoderCond (s.setAxis axis
      { s.axis axis with index := some (s.axis axis).count, zeroMark := true, suspect := true }) := by
  simp [indexPulse, hr, hf, hp, hi, ha]

end

/-- Settles O30: a fault's begin and a disagreeing pulse leave the channel suspect; a fault's end only posts. -/
theorem lineFaultsAndIndexPulses : Obligations.LineFaultsAndIndexPulses := by
  unfold Obligations.LineFaultsAndIndexPulses
  simp only [exec_lineFaultBegin, exec_lineFaultEnd, exec_indexPulse]
  refine ⟨fun axis s hr hf => ?begin, fun axis s hr hf => ?finish, fun axis s hr hf hp hi => ?absent,
    fun axis ref s hr hf hp hi => ⟨fun ha => ?agrees, fun ha => ?disagrees⟩, fun axis s hp => ?noPitch⟩
  case begin =>
    rw [lineFaultBegin_of_none axis hr hf]
    obtain ⟨haxis, hother, hraw, hhalt, -, hkept⟩ := encoderEvent_of_suspect .faultBegin axis
      { s.axis axis with fault := true, suspect := true } s rfl
    exact ⟨_, rfl, haxis, hother, hraw, hhalt, hkept⟩
  case finish =>
    rw [lineFaultEnd_of_present axis hr hf]
    refine ⟨_, rfl, by simp, fun o ho => ?_, fun l hl => get?_raw_encoderEvent _ _ _ _ hl, ?_,
      othersKept_trans (othersKept_setAxis s axis _) (othersKept_encoderEvent _ _ _ _)⟩
    · rw [encoderEvent_axis, setAxis_axis_other s _ ho]
    · rw [encoderEvent_of_stood, drive_run, postEncoder, post_run, setAxis_run]
  case absent => rw [indexPulse_of_absent axis hr hf hp hi]
  case agrees => rw [indexPulse_of_agrees axis hr hf hp hi ((indexAgrees_iff ..).mpr ha)]
  case disagrees =>
    have hd : indexAgrees (s.axis axis).count ref (s.cfg.indexPitch axis) s.cfg.indexTol = false :=
      Bool.eq_false_iff.mpr fun h => ha ((indexAgrees_iff ..).mp h)
    rw [indexPulse_of_disagrees axis hr hf hp hi hd]
    obtain ⟨haxis, hother, hraw, hhalt, -, hkept⟩ := encoderEvent_of_suspect .index axis
      { s.axis axis with index := some (s.axis axis).count, zeroMark := true, suspect := true } s rfl
    exact ⟨_, rfl, haxis, hother, hraw, hhalt, hkept⟩
  case noPitch => rw [indexPulse_of_no_pitch axis hp]

/-! ### POSITION_READ, TARGET_READ, CONFIG_READ -/

theorem exec_positionRead (tag : Byte) {s : State} (h : Serves .motion .positionRead s) :
    exec (.positionRead tag []) s = .next (replied .motion .positionRead tag (positionBody s) s) :=
  congrArg Host.Outcome.next (serve_of_serves tag [] (parseNone []) () positionRead h rfl)

theorem exec_targetRead (tag : Byte) {s : State} (h : Serves .thread .targetRead s) :
    exec (.targetRead tag []) s = .next (replied .thread .targetRead tag (targetReadBody s.planner) s) :=
  congrArg Host.Outcome.next (serve_of_serves tag [] (parseNone []) () targetRead h rfl)

theorem exec_configRead (tag : Byte) {s : State} (h : Serves .cell .configRead s) :
    exec (.configRead tag []) s = .next (replied .cell .configRead tag (Status.ok.code :: configFields s.cfg) s) :=
  congrArg Host.Outcome.next (serve_of_serves tag [] (parseNone []) () configRead h rfl)

/-- Settles O19: each of the three is answered with the body that its rule names. -/
theorem positionTargetAndConfigReads : Obligations.PositionTargetAndConfigReads :=
  ⟨fun tag _ h => exec_positionRead tag h, fun tag _ h => exec_targetRead tag h,
    fun tag _ h => ⟨exec_configRead tag h, rfl⟩⟩

/-! ### ZERO_SET (R35) -/

/-- A number that fits its bytes is read back from them. -/
theorem leNat_leBytes (w n : Nat) (h : n < 256 ^ w) : leNat (leBytes w n) = n := by
  induction w generalizing n with
  | zero => simp [leBytes, leNat] at h ⊢; exact h.symm
  | succ w ih =>
    have hrest : n / 256 < 256 ^ w := Nat.div_lt_of_lt_mul (by rwa [Nat.pow_succ'] at h)
    rw [leBytes, leNat, ih _ hrest, BitVec.toNat_ofNat]
    omega

theorem parseZeroSet_body (q : ZeroSetReq) : parseZeroSet q.body = some q := by
  have hread : parseZeroSet q.body = some ⟨BitVec.ofNat 32 (leNat (leBytes 4 q.x.toNat)),
    BitVec.ofNat 32 (leNat (leBytes 4 q.y.toNat))⟩ := rfl
  rw [hread, leNat_leBytes 4 _ q.x.isLt, leNat_leBytes 4 _ q.y.isLt, BitVec.ofNat_toNat, BitVec.ofNat_toNat]
  simp

/-- A served ZERO_SET is answered by its block. -/
theorem exec_zeroSet (tag : Byte) (q : ZeroSetReq) {s : State} (h : Serves .motion .zeroSet s) :
    exec (.zeroSet tag q.body) s = .next (finish .motion Req.zeroSet.code tag (zeroSet q s)) :=
  congrArg Host.Outcome.next (serve_of_serves tag q.body _ q zeroSet h (parseZeroSet_body q))

theorem zeroSet_of_run (q : ZeroSetReq) {s : State} (h : s.run.isSome = true) : zeroSet q s = refuse .busy s := by
  simp [zeroSet, h]

theorem zeroSet_of_lineFault (q : ZeroSetReq) {s : State} (hrun : s.run = none) (h : s.lineFault = true) :
    zeroSet q s = refuse .fault s := by
  simp [zeroSet, hrun, h]

theorem zeroSet_of_allowed (q : ZeroSetReq) {s : State} (hrun : s.run = none) (h : s.lineFault = false) :
    zeroSet q s = accepted (zeroAxes q s) zeroSetBody := by
  simp [zeroSet, hrun, h]

/-- Settles O28, check by check. -/
theorem zeroSetSetsBothOffsets : Obligations.ZeroSetSetsBothOffsets := by
  unfold Obligations.ZeroSetSetsBothOffsets
  refine ⟨fun tag q s h hrun hf => ?_, fun tag q s h hrun => ?_, fun tag q s h hrun hf => ?_⟩
  · rw [exec_zeroSet tag q h, zeroSet_of_allowed q hrun hf, finish_accepted]
    rfl
  · rw [exec_zeroSet tag q h, zeroSet_of_run q hrun, finish_refuse]
    rfl
  · rw [exec_zeroSet tag q h, zeroSet_of_lineFault q hrun hf, finish_refuse]
    rfl

/-! ### Evaluations (R133, R134) -/

/-- A change of retention state writes the map, and posts CONTOUR_STATE. -/
theorem changeRetention_eq (i : Nat) (r : RState) (s : State) :
    ∃ p, changeRetention i r s = post (.contourState [(i, r)]) { s with plate := p } := by
  unfold changeRetention
  split
  · exact ⟨_, rfl⟩
  · exact ⟨_, rfl⟩

/-- An evaluation changes nothing, or it is a change of retention state. -/
theorem evaluate_cases (i : Nat) (s : State) :
    evaluate i s = s ∨ ∃ r, evaluate i s = changeRetention i r s := by
  unfold evaluate
  split
  · exact .inl rfl
  · dsimp only
    split
    · exact .inl rfl
    · exact .inr ⟨_, rfl⟩

theorem kept_evaluate (i : Nat) (s : State) : Kept s (evaluate i s) := by
  obtain h | ⟨r, h⟩ := evaluate_cases i s
  · rw [h]; exact kept_refl s
  · obtain ⟨p, hp⟩ := changeRetention_eq i r s
    rw [h, hp]
    exact kept_trans (t := { s with plate := p }) (kept_refl s) (kept_post _ _)

/-- What evaluations write at most: the map and the links. -/
theorem evaluate_eq (i : Nat) (s : State) :
    ∃ p m t c, evaluate i s = { s with plate := p, motion := m, thread := t, cell := c } := by
  obtain h | ⟨r, h⟩ := evaluate_cases i s
  · exact ⟨s.plate, s.motion, s.thread, s.cell, h⟩
  · obtain ⟨p, hp⟩ := changeRetention_eq i r s
    exact ⟨_, _, _, _, h.trans hp⟩

/-- The contour entry with the retention state its evaluation gives. -/
def withState (c : Contour) (r : RState) : Contour := { c with live := c.live.map (fun v => { v with state := r }) }

theorem withState_of_live {c : Contour} {v : ContourLive} (h : c.live = some v) (r : RState) :
    withState c r = { c with live := some { v with state := r } } := by
  simp [withState, h]

theorem withState_self (c : Contour) : withState c c.lv.state = c := by
  obtain ⟨cls, width, vertices, tabs, geom, live⟩ := c
  cases live <;> rfl

theorem withState_withState (c : Contour) (r q : RState) : withState (withState c r) q = withState c q := by
  obtain ⟨cls, width, vertices, tabs, geom, live⟩ := c
  cases live <;> rfl

/-- An evaluation does not read the retention state it replaces. -/
theorem evaluated_withState (c : Contour) (r : RState) (armed : Bool) (lead : Nat) :
    (withState c r).evaluated armed lead = c.evaluated armed lead := by
  obtain ⟨cls, width, vertices, tabs, geom, live⟩ := c
  cases live <;> rfl

theorem changeRetention_contours (i : Nat) (r : RState) (s : State) :
    (changeRetention i r s).plate.contours = Table.modify s.plate.contours i (fun c => withState c r) := by
  unfold changeRetention
  split <;> rfl

theorem get?_modify_same {α : Type} (t : Table α) (i : Nat) (f : α → α) :
    Table.get? (Table.modify t i f) i = (Table.get? t i).map f := by
  unfold Table.modify
  cases h : Table.get? t i with
  | none => exact h
  | some v => exact Table.get?_set_same t i (f v)

theorem get?_modify_other {α : Type} (t : Table α) (f : α → α) {i j : Nat} (h : j ≠ i) :
    Table.get? (Table.modify t i f) j = Table.get? t j := by
  unfold Table.modify
  split
  · rfl
  · exact Table.get?_set_other t i j _ h

/-- An evaluation of another contour leaves a contour alone. -/
theorem contour?_evaluate_other (s : State) {i j : Nat} (h : j ≠ i) : (evaluate i s).contour? j = s.contour? j := by
  obtain he | ⟨r, he⟩ := evaluate_cases i s
  · rw [he]
  · rw [he, State.contour?, changeRetention_contours, get?_modify_other _ _ h, State.contour?]

/-- An evaluated contour has the state that R133 gives it. -/
theorem contour?_evaluate_same {s : State} {i : Nat} {c : Contour} (hc : s.contour? i = some c) :
    (evaluate i s).contour? i = some (withState c (c.evaluated (s.catchArmed i) s.cfg.permitLead)) := by
  unfold evaluate
  rw [hc]
  dsimp only
  split
  · rename_i hsame
    rw [hc, hsame, withState_self]
  · rw [State.contour?] at hc
    rw [State.contour?, changeRetention_contours, get?_modify_same, hc]
    rfl

/-! #### Evaluations one after another -/

theorem kept_foldl_evaluate (is : List Nat) (s : State) : Kept s (is.foldl (fun t i => evaluate i t) s) := by
  induction is generalizing s with
  | nil => exact kept_refl s
  | cons i rest ih => exact kept_trans (kept_evaluate i s) (ih _)

theorem foldl_evaluate_eq (is : List Nat) (s : State) :
    ∃ p m t c, is.foldl (fun t i => evaluate i t) s = { s with plate := p, motion := m, thread := t, cell := c } := by
  induction is generalizing s with
  | nil => exact ⟨s.plate, s.motion, s.thread, s.cell, rfl⟩
  | cons i rest ih =>
    obtain ⟨p, m, t, c, h⟩ := ih (evaluate i s)
    obtain ⟨_, _, _, _, he⟩ := evaluate_eq i s
    exact ⟨p, m, t, c, by rw [List.foldl_cons, h, he]⟩

/-- A contour has been evaluated where its index is among those evaluated, however often, and else it stays: a second
evaluation gives the state that the first one gave. -/
theorem contour?_foldl_evaluate (is : List Nat) {s : State} {i : Nat} {c : Contour} (hc : s.contour? i = some c) :
    (is.foldl (fun t i => evaluate i t) s).contour? i =
      some (if i ∈ is then withState c (c.evaluated (s.catchArmed i) s.cfg.permitLead) else c) := by
  induction is generalizing s c with
  | nil => simpa using hc
  | cons j rest ih =>
    have harmed : (evaluate j s).catchArmed i = s.catchArmed i := by simp [State.catchArmed]
    by_cases hj : j = i
    · subst hj
      rw [List.foldl_cons, ih (contour?_evaluate_same hc), harmed, evaluate_cfg, evaluated_withState,
        withState_withState]
      simp
    · have hij : i ≠ j := fun h => hj h.symm
      rw [List.foldl_cons, ih ((contour?_evaluate_other s hij).trans hc), harmed, evaluate_cfg]
      simp [hij]

theorem mem_indices_of_get? {α : Type} {t : Table α} {i : Nat} {v : α} (h : Table.get? t i = some v) :
    i ∈ t.map (·.1) := by
  induction t with
  | nil => simp at h
  | cons e rest ih =>
    obtain ⟨k, w⟩ := e
    rw [Table.get?_cons] at h
    split at h
    · simp_all
    · exact List.mem_cons_of_mem _ (ih h)

theorem kept_evaluateAll (s : State) : Kept s (evaluateAll s) := by
  unfold evaluateAll
  split
  · exact kept_foldl_evaluate _ s
  · exact kept_refl s

theorem evaluateAll_eq (s : State) :
    ∃ p m t c, evaluateAll s = { s with plate := p, motion := m, thread := t, cell := c } := by
  unfold evaluateAll
  split
  · exact foldl_evaluate_eq _ s
  · exact ⟨s.plate, s.motion, s.thread, s.cell, rfl⟩

/-- On an ARMED or ACTIVE plate every defined contour is evaluated (R134). -/
theorem contour?_evaluateAll {s : State} {i : Nat} {c : Contour} (hlive : s.plate.state.live = true)
    (hc : s.contour? i = some c) :
    (evaluateAll s).contour? i = some (withState c (c.evaluated (s.catchArmed i) s.cfg.permitLead)) := by
  rw [evaluateAll, if_pos hlive, contour?_foldl_evaluate _ hc, if_pos (mem_indices_of_get? hc)]

/-! ### CONFIG_WRITE (R162, R163) -/

/-- A lowered hole_limit writes the hole table at most. -/
theorem capHoles_eq (n : Nat) (s : State) :
    ∃ holes, capHoles n s = { s with plate := { s.plate with holes := holes } } := by
  unfold capHoles
  split
  · exact ⟨_, rfl⟩
  · exact ⟨s.plate.holes, rfl⟩

theorem kept_capHoles (n : Nat) (s : State) : Kept s (capHoles n s) := by
  obtain ⟨holes, h⟩ := capHoles_eq n s
  rw [h]
  exact kept_refl s

theorem capHoles_contours (n : Nat) (s : State) : (capHoles n s).plate.contours = s.plate.contours := by
  obtain ⟨holes, h⟩ := capHoles_eq n s
  rw [h]

/-- On an ARMED or ACTIVE plate every defined hole is capped (R163). -/
theorem hole?_capHoles (n : Nat) {s : State} {i : Nat} {h : Hole} {v : HoleLive} (hlive : s.plate.state.live = true)
    (hh : s.hole? i = some h) (hv : h.live = some v) :
    (capHoles n s).hole? i = some { h with live := some (v.capped n) } := by
  rw [State.hole?] at hh
  rw [capHoles, if_pos hlive, State.hole?, Table.get?_mapAll, hh]
  simp [hv]

theorem repitched_eq (c : Channel) (old new : Nat) :
    c.repitched old new = { c with index := if old = new then c.index else none } := by
  unfold Channel.repitched
  split <;> rfl

theorem rewindowed_of_same (g : Gap) {old new : ConfigRecord} (h : old.windowPeriod = new.windowPeriod) :
    g.rewindowed old new = g := if_pos h

theorem rewindowed_of_changed (g : Gap) {old new : ConfigRecord} (h : old.windowPeriod ≠ new.windowPeriod) :
    g.rewindowed old new =
      { g with n := 0, m := 0, sum := 0, eligible := false, windowTimer := new.windowPeriod * 1000 } := if_neg h

theorem rewindowed_lastWindow (g : Gap) (old new : ConfigRecord) :
    (g.rewindowed old new).lastWindow = g.lastWindow := by
  unfold Gap.rewindowed
  split <;> rfl

theorem rewindowed_ident (g : Gap) (old new : ConfigRecord) : (g.rewindowed old new).ident = g.ident := by
  unfold Gap.rewindowed
  split <;> rfl

/-- The record is replaced, and the axes and the window follow it; the map is as before. -/
def configTaken (new : ConfigRecord) (s : State) : State :=
  { s with
    cfg := new
    axisX := s.axisX.repitched s.cfg.indexPitchX new.indexPitchX
    axisY := s.axisY.repitched s.cfg.indexPitchY new.indexPitchY
    gap := s.gap.rewindowed s.cfg new }

/-- After it the contours are evaluated where permit_lead is another. -/
def leadTaken (new : ConfigRecord) (s : State) : State :=
  if s.cfg.permitLead = new.permitLead then configTaken new s else evaluateAll (configTaken new s)

theorem applyConfig_def (new : ConfigRecord) (s : State) :
    applyConfig new s =
      if new.holeLimit < s.cfg.holeLimit then capHoles new.holeLimit (leadTaken new s) else leadTaken new s := rfl

theorem kept_leadTaken (new : ConfigRecord) (s : State) : Kept s (leadTaken new s) := by
  have htaken : Kept s (configTaken new s) := kept_refl s
  unfold leadTaken
  split
  · exact htaken
  · exact kept_trans htaken (kept_evaluateAll _)

theorem kept_applyConfig (new : ConfigRecord) (s : State) : Kept s (applyConfig new s) := by
  rw [applyConfig_def]
  split
  · exact kept_trans (kept_leadTaken new s) (kept_capHoles _ _)
  · exact kept_leadTaken new s

theorem leadTaken_eq (new : ConfigRecord) (s : State) :
    ∃ p m t c, leadTaken new s = { configTaken new s with plate := p, motion := m, thread := t, cell := c } := by
  unfold leadTaken
  split
  · exact ⟨s.plate, s.motion, s.thread, s.cell, rfl⟩
  · exact evaluateAll_eq _

/-- Beyond the record, the axes and the window, CONFIG_WRITE writes the map and the links at most. -/
theorem applyConfig_eq (new : ConfigRecord) (s : State) :
    ∃ p m t c, applyConfig new s = { configTaken new s with plate := p, motion := m, thread := t, cell := c } := by
  obtain ⟨p, m, t, c, h⟩ := leadTaken_eq new s
  rw [applyConfig_def]
  split
  · obtain ⟨holes, hcap⟩ := capHoles_eq new.holeLimit (leadTaken new s)
    exact ⟨_, m, t, c, by rw [hcap, h]⟩
  · exact ⟨p, m, t, c, h⟩

theorem applyConfig_contours (new : ConfigRecord) (s : State) :
    (applyConfig new s).plate.contours = (leadTaken new s).plate.contours := by
  rw [applyConfig_def]
  split
  · exact capHoles_contours _ _
  · rfl

theorem applyConfig_contours_of_same_lead {new : ConfigRecord} {s : State}
    (h : s.cfg.permitLead = new.permitLead) : (applyConfig new s).plate.contours = s.plate.contours := by
  rw [applyConfig_contours, leadTaken, if_pos h]
  rfl

/-- Under another permit_lead every contour of an ARMED or ACTIVE plate is evaluated with it (R163). -/
theorem applyConfig_contour?_of_other_lead {new : ConfigRecord} {s : State} {i : Nat} {c : Contour}
    (h : s.cfg.permitLead ≠ new.permitLead) (hlive : s.plate.state.live = true) (hc : s.contour? i = some c) :
    (applyConfig new s).contour? i = some (withState c (c.evaluated (s.catchArmed i) new.permitLead)) := by
  rw [State.contour?, applyConfig_contours, leadTaken, if_neg h]
  exact contour?_evaluateAll (s := configTaken new s) hlive hc

theorem applyConfig_holes_of_same_lead {new : ConfigRecord} {s : State} (hlimit : s.cfg.holeLimit ≤ new.holeLimit)
    (h : s.cfg.permitLead = new.permitLead) : (applyConfig new s).plate.holes = s.plate.holes := by
  rw [applyConfig_def, if_neg (by omega), leadTaken, if_pos h]
  rfl

/-- Under a lower hole_limit every hole of an ARMED or ACTIVE plate is capped (R163). -/
theorem applyConfig_hole?_of_lower_limit {new : ConfigRecord} {s : State} {i : Nat} {e : Hole} {v : HoleLive}
    (hlimit : new.holeLimit < s.cfg.holeLimit) (h : s.cfg.permitLead = new.permitLead)
    (hlive : s.plate.state.live = true) (he : s.hole? i = some e) (hv : e.live = some v) :
    (applyConfig new s).hole? i = some { e with live := some (v.capped new.holeLimit) } := by
  rw [applyConfig_def, if_pos hlimit, leadTaken, if_pos h]
  exact hole?_capHoles _ (s := configTaken new s) hlive he hv

/-- A served CONFIG_WRITE is answered by its block. -/
theorem exec_configWrite (tag : Byte) {body : List Byte} {new : ConfigRecord} {s : State}
    (h : Serves .cell .configWrite s) (hb : parseConfig body = some new) :
    exec (.configWrite tag body) s = .next (finish .cell Req.configWrite.code tag (configWrite new s)) :=
  congrArg Host.Outcome.next (serve_of_serves tag body _ new configWrite h hb)

theorem configWrite_of_run (new : ConfigRecord) {s : State} (h : s.run.isSome = true) :
    configWrite new s = (s, some (Status.busy.code :: configFields s.cfg)) := by
  simp [configWrite, h]

theorem configWrite_of_no_run (new : ConfigRecord) {s : State} (h : s.run = none) :
    configWrite new s = accepted (applyConfig new s) (fun t => Status.ok.code :: configFields t.cfg) := by
  simp [configWrite, h]

/-- The state after an accepted CONFIG_WRITE: its effects, the outputs that follow them, and the reply. -/
def configWritten (tag : Byte) (new : ConfigRecord) (s : State) : State :=
  replied .cell .configWrite tag (Status.ok.code :: configFields new) (drive (applyConfig new s))

theorem exec_configWrite_of_no_run (tag : Byte) {body : List Byte} {new : ConfigRecord} {s : State}
    (h : Serves .cell .configWrite s) (hb : parseConfig body = some new) (hrun : s.run = none) :
    exec (.configWrite tag body) s = .next (configWritten tag new s) := by
  have hcfg : (applyConfig new s).cfg = new := by
    obtain ⟨p, m, t, c, he⟩ := applyConfig_eq new s
    rw [he]; rfl
  rw [exec_configWrite tag h hb, configWrite_of_no_run new hrun, finish_accepted, drive_cfg, hcfg]
  rfl

theorem kept_configWritten (tag : Byte) (new : ConfigRecord) (s : State) : Kept s (configWritten tag new s) :=
  kept_trans (kept_applyConfig new s) (kept_trans (kept_drive _) (kept_replied ..))

theorem replied_cell_reply (k : Req) (tag : Byte) (body : List Byte) (s : State) :
    (replied .cell k tag body s).cell.busy.bind (·.reply) = some (frameOf (k.code + 0x80) tag body) := rfl

theorem configWritten_reply (tag : Byte) (new : ConfigRecord) (s : State) :
    (configWritten tag new s).cell.busy.bind (·.reply) = some (frameOf 0xC1 tag (0 :: configFields new)) := by
  have hkind : Req.configWrite.code + 0x80 = 0xC1 := by decide
  rw [configWritten, replied_cell_reply, hkind, Status.code]

theorem configWritten_plate (tag : Byte) (new : ConfigRecord) (s : State) :
    (configWritten tag new s).plate = (applyConfig new s).plate := by
  rw [configWritten, replied, answerWith_plate, drive_plate]

theorem configWritten_contour? (tag : Byte) (new : ConfigRecord) (s : State) (i : Nat) :
    (configWritten tag new s).contour? i = (applyConfig new s).contour? i := by
  rw [State.contour?, configWritten_plate, State.contour?]

theorem configWritten_hole? (tag : Byte) (new : ConfigRecord) (s : State) (i : Nat) :
    (configWritten tag new s).hole? i = (applyConfig new s).hole? i := by
  rw [State.hole?, configWritten_plate, State.hole?]

/-- All that an accepted CONFIG_WRITE writes: the record, the axes and the window, the map, the permits with the stray
count that a rise of SPARK_OK clears, and the links. -/
theorem configWritten_eq (tag : Byte) (new : ConfigRecord) (s : State) :
    ∃ p m t c spark thread stray, configWritten tag new s = { configTaken new s with
      plate := p, motion := m, thread := t, cell := c, sparkOk := spark, threadOk := thread
      gap := { s.gap.rewindowed s.cfg new with stray := stray } } := by
  obtain ⟨p, m, t, c, h⟩ := applyConfig_eq new s
  rw [configWritten, h]
  exact ⟨_, _, _, _, _, _, _, rfl⟩

/-- Settles O50: the blocks that CONFIG_WRITE writes one by one; evaluation and capping read the map as it was. -/
theorem configWriteReplacesTheRecord : Obligations.ConfigWriteReplacesTheRecord := by
  unfold Obligations.ConfigWriteReplacesTheRecord
  refine ⟨fun tag body new s h hb hrun => ?written, fun tag body new s h hb hrun => ?busy⟩
  case written =>
    obtain ⟨p, m, t, c, spark, thread, stray, ht⟩ := configWritten_eq tag new s
    refine ⟨_, exec_configWrite_of_no_run tag h hb hrun, by rw [ht]; rfl, configWritten_reply tag new s,
      by rw [ht]; exact repitched_eq .., by rw [ht]; exact repitched_eq .., fun hw => ?changed, fun hw => ?same,
      by rw [ht]; exact rewindowed_lastWindow .., by rw [ht]; exact rewindowed_ident ..,
      applyConfig_contours_of_same_lead, fun hl hlive i c v hc hv => ?evaluated,
      applyConfig_holes_of_same_lead, fun hn hl hlive i e v he hv => ?capped,
      by rw [ht]; exact hrun, by rw [ht]; rfl, by rw [ht]; rfl, by rw [ht]; rfl, by rw [ht]; rfl,
      by rw [ht]; exact ⟨rfl, rfl⟩, kept_configWritten tag new s⟩
    case changed => simp [ht, rewindowed_of_changed _ hw]
    case same => simp [ht, rewindowed_of_same _ hw]
    case evaluated =>
      rw [configWritten_contour?, applyConfig_contour?_of_other_lead hl hlive hc, withState_of_live hv]
    case capped =>
      rw [configWritten_hole?, applyConfig_hole?_of_lower_limit hn hl hlive he hv]
      rfl
  case busy =>
    rw [exec_configWrite tag h hb, configWrite_of_run new hrun, finish_reply]
    rfl

end Sys2Proof.AxisPosition
end

section
/-! SUPPORT. Runs (chapter 4): the requests of the Motion Link on runs, shorts and pinches, what a loop sample makes of
the run's phase, and the limits; the rules of the Run Controller's shared operations, and the statements settled from
them. -/

namespace Sys2Proof.Runs

open Sys2Proof.Machine Sys2Proof.Safety Sys2Proof.AxisPosition

/-! ### Answers of the requests on runs -/

theorem exec_runOpen (tag : Byte) {body : List Byte} {q : RunOpenReq} {s : State} (h : Serves .motion .runOpen s)
    (hb : parseRunOpen body = some q) :
    exec (.runOpen tag body) s = .next (finish .motion Req.runOpen.code tag (runOpen q s)) :=
  congrArg Host.Outcome.next (serve_of_serves tag body _ q runOpen h hb)

theorem exec_runClose (tag : Byte) {s : State} (h : Serves .motion .runClose s) :
    exec (.runClose tag []) s = .next (finish .motion Req.runClose.code tag (runClose () s)) :=
  congrArg Host.Outcome.next (serve_of_serves tag [] (parseNone []) () runClose h rfl)

theorem exec_settingChange (tag b : Byte) {s : State} (h : Serves .motion .settingChange s) :
    exec (.settingChange tag [b]) s = .next (finish .motion Req.settingChange.code tag (settingChange b.toNat s)) :=
  congrArg Host.Outcome.next (serve_of_serves tag [b] (parseByte [b]) b.toNat settingChange h rfl)

theorem exec_warnClear (tag : Byte) {s : State} (h : Serves .motion .warnClear s) :
    exec (.warnClear tag []) s = .next (finish .motion Req.warnClear.code tag (warnClear () s)) :=
  congrArg Host.Outcome.next (serve_of_serves tag [] (parseNone []) () warnClear h rfl)

/-! ### SETTING_CHANGE and WARN_CLEAR (R72, R77) -/

/-- A byte is the one-byte field of its number. -/
theorem natField_one_toNat (b : Byte) : natField 1 b.toNat = [b] := by
  have hfits : b.toNat < 256 ^ 1 := b.isLt
  rw [natField, if_pos hfits, leBytes, leBytes, BitVec.ofNat_toNat, BitVec.setWidth_eq]

/-- What the stop point test reads, spelled for the three kinds at once (R67). -/
theorem testedValue_eq (run : Run) (prog : Progress) :
    testedValue run prog = if run.kind = .skim then prog.r else (prog.a : Int) := by
  unfold testedValue
  cases run.kind <;> rfl

/-- A settle trigger that settle_on_resume "yes" lets through opens a window of a length above 0; an ineligible window
stays so (R69, R111). -/
theorem settleOnResume_of_ineligible {s : State} (h : s.gap.eligible = false) :
    settleOnResume s = { s with gap := { s.gap with
      settle := if s.cfg.settleOnResume = true ∧ s.cfg.settleTime ≠ 0 then some (s.cfg.settleTime * 10000)
        else s.gap.settle } } := by
  have heligible : { s.gap with eligible := false } = s.gap := by rw [← h]
  unfold settleOnResume settleTrigger State.modGap
  by_cases hon : s.cfg.settleOnResume = true
  · by_cases ht : s.cfg.settleTime = 0
    · simp [hon, ht, h]
    · simp [hon, ht, h, Config.refsPerMs]
  · simp [hon]

theorem settingChange_of_run {n : Nat} {run : Run} {s : State} (h : s.run = some run) (hn : n ≤ 7) :
    settingChange n s = accepted (changeSetting run n s) (fun _ =>
      Status.ok.code :: (natField 2 run.number ++ natField 1 n)) := by
  simp [settingChange, h, Nat.not_lt.mpr hn]

theorem settingChange_of_no_run (n : Nat) {s : State} (h : s.run = none) : settingChange n s = refuse .state s := by
  simp [settingChange, h]

theorem settingChange_of_range {n : Nat} {s : State} (h : s.run.isSome = true) (hn : 7 < n) :
    settingChange n s = refuse .range s := by
  obtain ⟨run, hrun⟩ := Option.isSome_iff_exists.mp h
  simp [settingChange, hrun, hn]

theorem changeSetting_eq (run : Run) (n : Nat) (s : State) :
    changeSetting run n s = { s with
      run := some { run with expected := n }
      gap := { s.gap with
        mismatch := 0, eligible := false
        settle := if s.cfg.settleOnResume = true ∧ s.cfg.settleTime ≠ 0 then some (s.cfg.settleTime * 10000)
          else s.gap.settle } } :=
  settleOnResume_of_ineligible rfl

theorem warnClear_of_no_run {s : State} (h : s.run = none) : warnClear () s = refuse .state s := by
  simp [warnClear, h]

theorem warnClear_of_run {run : Run} {s : State} (h : s.run = some run) :
    warnClear () s = ({ s with run := some { run with warn := warnCleared s run } },
      some (Status.ok.code :: (flagField (warnCleared s run) ++ intField 4 (usedRemaining s run)))) := by
  simp [warnClear, h]

/-- The distance kept at the last completed sample, and before the first one the remaining distance (R72, log 40). -/
theorem usedRemaining_eq (s : State) (run : Run) :
    usedRemaining s run = match run.sampledRem with
      | some d => d
      | none => run.stop - (if run.kind = .skim then s.prog.r else s.prog.a) := by
  cases h : run.sampledRem with
  | some d => exact usedRemaining_of_some h
  | none => rw [usedRemaining_of_none h, remaining, testedValue_eq]

/-- Settles O27, request by request and check by check. -/
theorem settingChangeAndWarnClear : Obligations.SettingChangeAndWarnClear := by
  unfold Obligations.SettingChangeAndWarnClear
  refine ⟨fun tag b run s h hrun hb => ?changed, fun tag b s h => ⟨fun hrun => ?noRun, fun hrun hb => ?range⟩,
    fun tag run s h hrun => ?cleared, fun tag s h hrun => ?notCleared⟩
  case changed =>
    rw [exec_settingChange tag b h, settingChange_of_run hrun hb, finish_accepted, changeSetting_eq,
      natField_one_toNat]
    rfl
  case noRun =>
    rw [exec_settingChange tag b h, settingChange_of_no_run _ hrun, finish_refuse]
    rfl
  case range =>
    rw [exec_settingChange tag b h, settingChange_of_range hrun hb, finish_refuse]
    rfl
  case cleared =>
    rw [exec_warnClear tag h, warnClear_of_run hrun, finish_reply, warnCleared, usedRemaining_eq]
    cases run.sampledRem <;> rfl
  case notCleared =>
    rw [exec_warnClear tag h, warnClear_of_no_run hrun, finish_refuse]
    rfl

/-! ### Refused openings (R62) -/

theorem exec_runOpen_of_error (tag : Byte) {body : List Byte} {q : RunOpenReq} {s : State} {st : Status}
    (h : Serves .motion .runOpen s) (hb : parseRunOpen body = some q) (he : checkOpen q s = .error st) :
    exec (.runOpen tag body) s = .next (replied .motion .runOpen tag [st.code] s) := by
  rw [exec_runOpen tag h hb, runOpen_of_error he, finish_refuse]

/-- Check 3 on a READY device. -/
theorem openFault_iff {s : State} (hd : s.device = .ready) :
    openFault s = true ↔ s.gap.violation = true ∨ s.suspect = true ∨ s.lineFault = true := by
  simp [openFault, hd, or_assoc]

theorem kindOfCode_eq_none {n : Nat} (h : 2 < n) : RunKind.ofCode n = none := by
  match n with
  | 0 | 1 | 2 => omega
  | _ + 3 => rfl

theorem dirOfCode_eq_none {n : Nat} (h : 1 < n) : Dir.ofCode n = none := by
  match n with
  | 0 | 1 => omega
  | _ + 2 => rfl

/-- Check 4 fails on any of its fields. -/
theorem openFields_eq_none {q : RunOpenReq} {s : State}
    (h : 63 < q.contour ∨ s.contour? q.contour = none ∨ 127 < q.hole ∨ s.hole? q.hole = none ∨
      (∃ h, s.hole? q.hole = some h ∧ h.owner ≠ q.contour) ∨ 2 < q.kind ∨ 1 < q.dir) : openFields q s = none := by
  obtain hc | hc | hh | hh | ⟨e, he, howner⟩ | hk | hd := h
  · simp [openFields, Nat.not_le.mpr hc]
  · simp [openFields, hc]
  · simp [openFields, Nat.not_le.mpr hh]
  · simp [openFields, hh]
  · simp [openFields, he, howner]
  · simp [openFields, kindOfCode_eq_none hk]
  · simp [openFields, dirOfCode_eq_none hd]

theorem openFields_eq_some {q : RunOpenReq} {c : Contour} {h : Hole} {kind : RunKind} {dir : Dir} {s : State}
    (hq : q.contour ≤ 63) (hc : s.contour? q.contour = some c) (hr : q.hole ≤ 127) (hh : s.hole? q.hole = some h)
    (howner : h.owner = q.contour) (hk : RunKind.ofCode q.kind = some kind) (hd : Dir.ofCode q.dir = some dir) :
    openFields q s = some (c, h, kind, dir) := by
  simp [openFields, hq, hc, hr, hh, howner, hk, hd]

theorem allows_iff (d : Dirs) (dir : Dir) :
    d.allows dir = true ↔ d = .both ∨ (d = .fwd ∧ dir = .fwd) ∨ (d = .rev ∧ dir = .rev) := by
  cases d <;> cases dir <;> decide

theorem kindAllowed_iff (kind : RunKind) (c : Contour) (h : Hole) :
    kindAllowed kind c h = true ↔
      (kind = .first → c.lv.state = .planned ∨ c.lv.state = .partly) ∧
      (kind = .release → (c.lv.state = .held ∨ c.lv.state = .suspect) ∧ c.cls ≠ .keep) ∧
      (kind = .skim → (c.lv.state = .partly ∨ c.lv.state = .held ∨ c.lv.state = .suspect) ∧
        h.lv.leadInCut = true) := by
  cases kind <;> simp [kindAllowed, or_assoc]

theorem catchArmed_iff (s : State) (i : Nat) : s.catchArmed i = true ↔ i ∈ s.catchSet := by
  simp [State.catchArmed]

theorem wireAllows_iff (w : Wire) (h : Nat) : wireAllows w h = true ↔ w = .none ∨ w = .hole h := by
  cases w <;> simp [wireAllows]

section
variable {q : RunOpenReq} {c : Contour} {h : Hole} {kind : RunKind} {dir : Dir} {s : State}

/-- Checks 5 to 7 answer STATE. -/
theorem openChecks_of_not_allowed
    (hnot : ¬ (h.lv.state = .opened ∧ h.dirs.allows dir = true) ∨ ¬ kindAllowed kind c h = true ∨
      ¬ (kind = .release → s.catchArmed q.contour = true)) :
    openChecks q c h kind dir s = .error .state := by
  unfold openChecks
  by_cases hfive : h.lv.state = .opened ∧ h.dirs.allows dir = true
  · by_cases hsix : kindAllowed kind c h = true
    · have hseven : kind = .release ∧ s.catchArmed q.contour = false := by simpa [hfive, hsix] using hnot
      simp [hfive, hseven]
    · simp [hfive, hsix]
  · have : (h.lv.state != .opened || !h.dirs.allows dir) = true := by
      simpa [not_and, or_iff_not_imp_left] using hfive
    simp [this]

variable (hfive : h.lv.state = .opened ∧ h.dirs.allows dir = true) (hsix : kindAllowed kind c h = true)
  (hseven : kind = .release → s.catchArmed q.contour = true)
include hfive hsix hseven

/-- Where checks 5 to 7 hold, checks 8 to 10 answer. -/
theorem openChecks_of_allowed :
    openChecks q c h kind dir s =
      let cut := cutFrom kind h.g.entry dir c
      let lim := computeLimits kind h.g.entry dir c (s.catchArmed q.contour) s.cfg.permitLead cut
      if 7 < q.setting then .error .range
      else if !wireAllows s.planner.wire q.hole then .error .wire
      else if lim.limit ≤ cut then .error .state
      else .ok ⟨q.contour, q.hole, kind, dir, q.setting, h.g.entry, cut, lim⟩ := by
  have hcatch : ¬ (kind = .release ∧ s.catchArmed q.contour = false) := fun ⟨hk, ha⟩ => by simp [hseven hk] at ha
  simp [openChecks, hfive, hsix, hcatch]

theorem openChecks_of_setting (hset : 7 < q.setting) : openChecks q c h kind dir s = .error .range := by
  rw [openChecks_of_allowed hfive hsix hseven]
  exact if_pos hset

theorem openChecks_of_wire (hset : q.setting ≤ 7) (hwire : ¬ wireAllows s.planner.wire q.hole = true) :
    openChecks q c h kind dir s = .error .wire := by
  rw [openChecks_of_allowed hfive hsix hseven]
  simp [Nat.not_lt.mpr hset, hwire]

theorem openChecks_of_limit (hset : q.setting ≤ 7) (hwire : wireAllows s.planner.wire q.hole = true)
    (hlimit : (computeLimits kind h.g.entry dir c (s.catchArmed q.contour) s.cfg.permitLead
      (cutFrom kind h.g.entry dir c)).limit ≤ cutFrom kind h.g.entry dir c) :
    openChecks q c h kind dir s = .error .state := by
  rw [openChecks_of_allowed hfive hsix hseven]
  simp [Nat.not_lt.mpr hset, hwire, hlimit]

end

section
variable {q : RunOpenReq} {s : State}

theorem checkOpen_of_dead (h : s.plate.state.live = false) : checkOpen q s = .error .state := by
  simp [checkOpen, h]

theorem checkOpen_of_run (hl : s.plate.state.live = true) (h : s.run.isSome = true) :
    checkOpen q s = .error .busy := by
  simp [checkOpen, hl, h]

theorem checkOpen_of_fault (hl : s.plate.state.live = true) (hrun : s.run = none) (h : openFault s = true) :
    checkOpen q s = .error .fault := by
  simp [checkOpen, hl, hrun, h]

theorem checkOpen_of_no_fields (hl : s.plate.state.live = true) (hrun : s.run = none) (hf : ¬ openFault s = true)
    (h : openFields q s = none) : checkOpen q s = .error .range := by
  simp [checkOpen, hl, hrun, hf, h]

theorem checkOpen_of_fields {c : Contour} {h : Hole} {kind : RunKind} {dir : Dir} (hl : s.plate.state.live = true)
    (hrun : s.run = none) (hf : ¬ openFault s = true) (he : openFields q s = some (c, h, kind, dir)) :
    checkOpen q s = openChecks q c h kind dir s := by
  simp [checkOpen, hl, hrun, hf, he]

end

/-- Settles O24: the checks one after another, each given that those before it hold. -/
theorem runOpenRefusedByTheFirstCheck : Obligations.RunOpenRefusedByTheFirstCheck := by
  unfold Obligations.RunOpenRefusedByTheFirstCheck
  intro tag body q s hs hb refused fault
  have refusedBy {st : Status} (he : checkOpen q s = .error st) : refused st.code :=
    exec_runOpen_of_error tag hs hb he
  have hfault : openFault s = true ↔ fault := openFault_iff (hs.ready (by decide))
  refine ⟨fun hl => refusedBy (checkOpen_of_dead hl), fun hl hrun => refusedBy (checkOpen_of_run hl hrun),
    fun hl hrun hf => refusedBy (checkOpen_of_fault hl hrun (hfault.mpr hf)), fun hl hrun hf => ⟨fun hbad =>
      refusedBy (checkOpen_of_no_fields hl hrun (mt hfault.mp hf) (openFields_eq_none hbad)), ?_⟩⟩
  intro c h kind dir hq hc hr hh howner hk hd five six seven nine cut lim
  have hfive : five ↔ h.lv.state = .opened ∧ h.dirs.allows dir = true := and_congr_right fun _ => (allows_iff ..).symm
  have hsix : six ↔ kindAllowed kind c h = true := (kindAllowed_iff ..).symm
  have hseven : seven ↔ (kind = .release → s.catchArmed q.contour = true) :=
    imp_congr_right fun _ => (catchArmed_iff ..).symm
  have hnine : nine ↔ wireAllows s.planner.wire q.hole = true := (wireAllows_iff ..).symm
  have hchecks : checkOpen q s = openChecks q c h kind dir s :=
    checkOpen_of_fields hl hrun (mt hfault.mp hf) (openFields_eq_some hq hc hr hh howner hk hd)
  rw [hfive, hsix, hseven, hnine]
  exact ⟨fun hnot => refusedBy (hchecks.trans (openChecks_of_not_allowed hnot)),
    fun h5 h6 h7 hset => refusedBy (hchecks.trans (openChecks_of_setting h5 h6 h7 hset)),
    fun h5 h6 h7 hset h9 => refusedBy (hchecks.trans (openChecks_of_wire h5 h6 h7 hset h9)),
    fun h5 h6 h7 hset h9 hlim => refusedBy (hchecks.trans (openChecks_of_limit h5 h6 h7 hset h9 hlim))⟩

/-! ### What a halt cause does (R73, R74) -/

/-- A halt cause writes the run, the sample in progress, the presence flag, the eligibility mark and the links at
most. -/
theorem arise_eq (cause : Causes) (s : State) :
    ∃ r sampling presence eligible m t c, arise cause s = { s with
      run := r, sampling := sampling, gap := { s.gap with presence := presence, eligible := eligible }
      motion := m, thread := t, cell := c } := by
  obtain h | ⟨run, hrun, -, h⟩ | ⟨r, e, -, h⟩ := arise_cases cause s
  · exact ⟨s.run, s.sampling, s.gap.presence, s.gap.eligible, s.motion, s.thread, s.cell, h⟩
  · cases hs : s.sampling <;>
      exact ⟨_, _, _, _, _, _, _, by rw [h, haltRun, hrun, abandonSample, hs]; rfl⟩
  · exact ⟨r, s.sampling, s.gap.presence, s.gap.eligible, _, _, _, h⟩

/-- A cause of a halted run is added to its causes, and HALT is posted again where it is new (R74). -/
theorem arise_of_halted (cause : Causes) {s : State} {run : Run} {h : Halt} (hrun : s.run = some run)
    (hp : run.phase = .halted) (hh : run.halt = some h) :
    arise cause s =
      if h.causes.union cause = h.causes then s
      else post (.halt run.number (h.causes.union cause) h.back)
        { s with run := some { run with halt := some ⟨h.causes.union cause, h.back⟩ } } := by
  simp [arise, hrun, hp, hh, Phase.tracking]

/-- A run that waits for the wire, is broken or stranded is left alone (R73). -/
theorem arise_of_waiting (cause : Causes) {s : State} {run : Run} (hrun : s.run = some run)
    (hp : run.phase = .awaitThread ∨ run.phase = .broken ∨ run.phase = .stranded) : arise cause s = s := by
  obtain hp | hp | hp := hp <;> simp [arise, hrun, hp, Phase.tracking]

/-! ### Postings -/

/-- A kind that is routed to a link and is not CONTOUR_STATE stands there with the detail posted. -/
theorem get?_raw_post_same (e : Event) (s : State) {l : Link} (hr : (routed l).getLsbD e.bit = true)
    (h : e.bit ≠ 7) : Table.get? ((post e s).link l).raw e.bit = some e := by
  rw [post_link]
  exact get?_posted_same _ _ _ hr h

theorem get?_raw_post_other (e : Event) (s : State) (l : Link) {b : Nat} (h : b ≠ e.bit) :
    Table.get? ((post e s).link l).raw b = Table.get? (s.link l).raw b := by
  rw [post_link]
  exact get?_posted_other _ _ _ _ h

/-- HALT stands on the Motion Link and the Cell Link after a halt (R73). -/
theorem get?_raw_haltRun_halt (cause : Causes) {s : State} {run : Run} (h : s.run = some run) {l : Link}
    (hl : l = .motion ∨ l = .cell) :
    Table.get? ((haltRun cause s).link l).raw 6 = some (.halt run.number cause run.phase) := by
  have hr : (routed l).getLsbD 6 = true := by rcases hl with rfl | rfl <;> decide
  rw [haltRun_link cause h, get?_posted_other _ _ _ _ (by simp [Event.bit])]
  exact get?_posted_same (s.link l) l (.halt run.number cause run.phase) hr (by simp [Event.bit])

/-! ### Evaluations and the map -/

/-- An evaluation posts CONTOUR_STATE at most. -/
theorem get?_raw_evaluate (i : Nat) (s : State) (l : Link) {b : Nat} (h : b ≠ 7) :
    Table.get? ((evaluate i s).link l).raw b = Table.get? (s.link l).raw b := by
  obtain he | ⟨r, he⟩ := evaluate_cases i s
  · rw [he]
  · obtain ⟨p, hp⟩ := changeRetention_eq i r s
    rw [he, hp, get?_raw_post_other _ _ _ (by simpa [Event.bit] using h)]
    cases l <;> rfl

theorem contour?_modLive_same (s : State) (i : Nat) (f : ContourLive → ContourLive) :
    (s.modLive i f).contour? i = (s.contour? i).map (fun e => { e with live := e.live.map f }) :=
  get?_modify_same ..

theorem contour?_modLive_other (s : State) (f : ContourLive → ContourLive) {i j : Nat} (h : j ≠ i) :
    (s.modLive i f).contour? j = s.contour? j :=
  get?_modify_other _ _ h

theorem kept_modLive (s : State) (i : Nat) (f : ContourLive → ContourLive) : Kept s (s.modLive i f) := kept_refl s

/-- An evaluated contour differs in its state alone, which is its own evaluation (R133). -/
theorem contour?_evaluate_of_live {s : State} {i : Nat} {c : Contour} {v : ContourLive} (hc : s.contour? i = some c)
    (hv : c.live = some v) :
    ∃ d, (evaluate i s).contour? i = some d ∧
      d = { c with live := some { v with state := d.evaluated (s.catchArmed i) s.cfg.permitLead } } := by
  refine ⟨_, contour?_evaluate_same hc, ?_⟩
  rw [evaluated_withState]
  exact withState_of_live hv _

/-! ### SHORT_IN_RISE, SHORT_IN_FALL, SHORT_QUALIFY (R105) -/

theorem exec_shortInRise (s : State) : exec .shortInRise s = .next (shortInRise s) := rfl

theorem exec_shortInFall (s : State) : exec .shortInFall s = .next (shortInFall s) := rfl

theorem exec_shortQualify (s : State) : exec .shortQualify s = .next (shortQualify s) := rfl

theorem shortInRise_of_low {s : State} (h : s.shortIn = false) :
    shortInRise s = { s with
      shortIn := true
      gap := { s.gap with episode := if s.run.isSome then some ⟨0, false, false⟩ else s.gap.episode } } := by
  unfold shortInRise
  rw [if_neg (by simp [h])]
  split <;> rfl

theorem shortQualify_of_episode {run : Run} {e : Episode} {s : State} (hrun : s.run = some run)
    (he : s.gap.episode = some e) (hq : e.qualified = false) :
    shortQualify s = { s with
      gap := { s.gap with episode := some { e with qualified := true }, shortSince := true }
      run := some { run with shorts := if s.gap.settle = none then min 65535 (run.shorts + 1) else run.shorts } } := by
  have hcount : shortQualify s = countShort (s.modGap (fun g =>
      { g with episode := some { e with qualified := true }, shortSince := true })) := by
    simp [shortQualify, he, hq]
  rw [hcount, countShort]
  cases hs : s.gap.settle with
  | none => simp [State.modGap, State.modRun, hs, hrun, satInc, max16]
  | some n => simp [State.modGap, hs, ← hrun]

/-! ### PINCH (R106, R107) -/

/-- The tilt mark asks for at most an evaluation of the contour with the mark set (R135). -/
theorem setTilt_cases (i : Nat) (s : State) :
    setTilt i s = s ∨ setTilt i s = evaluate i (s.modLive i (fun v => { v with tilt := true })) := by
  unfold setTilt
  split
  · exact .inl rfl
  · split
    · exact .inl rfl
    · exact .inr rfl

theorem setTilt_of_set {i : Nat} {s : State} {c : Contour} (hc : s.contour? i = some c) (ht : c.lv.tilt = true) :
    setTilt i s = s := by
  simp [setTilt, hc, ht]

theorem setTilt_of_clear {i : Nat} {s : State} {c : Contour} (hc : s.contour? i = some c) (ht : c.lv.tilt = false) :
    setTilt i s = evaluate i (s.modLive i (fun v => { v with tilt := true })) := by
  simp [setTilt, hc, ht]

theorem tiltNeeded_of_contour {s : State} {run : Run} {c : Contour} (hc : s.contour? run.contour = some c) :
    tiltNeeded s run = (!(c.answers s.cfg.permitLead).full && (run.kind == .release ||
      (!(c.answers s.cfg.permitLead).empty && (c.answers s.cfg.permitLead).allRemnants))) := by
  simp [tiltNeeded, hc]

theorem pinchTilt_of_needed {s : State} {run : Run} (hrun : s.run = some run) (h : tiltNeeded s run = true) :
    pinchTilt s = setTilt run.contour s := by
  simp [pinchTilt, hrun, h]

theorem pinchTilt_of_not_needed {s : State} {run : Run} (hrun : s.run = some run) (h : tiltNeeded s run = false) :
    pinchTilt s = s := by
  simp [pinchTilt, hrun, h]

/-- What a pinch asks of the Retention Unit is nothing, or one evaluation of the run's contour. -/
theorem pinchTilt_cases {s : State} {run : Run} (hrun : s.run = some run) :
    pinchTilt s = s ∨
      pinchTilt s = evaluate run.contour (s.modLive run.contour (fun v => { v with tilt := true })) := by
  cases h : tiltNeeded s run with
  | false => exact .inl (pinchTilt_of_not_needed hrun h)
  | true => rw [pinchTilt_of_needed hrun h]; exact setTilt_cases ..

/-- It writes the map and the links at most. -/
theorem pinchTilt_eq {s : State} {run : Run} (hrun : s.run = some run) :
    ∃ p m t c, pinchTilt s = { s with plate := p, motion := m, thread := t, cell := c } := by
  obtain h | h := pinchTilt_cases hrun
  · exact ⟨s.plate, s.motion, s.thread, s.cell, h⟩
  · obtain ⟨p, m, t, c, he⟩ := evaluate_eq run.contour (s.modLive run.contour (fun v => { v with tilt := true }))
    exact ⟨p, m, t, c, h.trans he⟩

theorem kept_pinchTilt {s : State} {run : Run} (hrun : s.run = some run) : Kept s (pinchTilt s) := by
  obtain h | h := pinchTilt_cases hrun
  · rw [h]; exact kept_refl s
  · rw [h]; exact kept_trans (kept_modLive ..) (kept_evaluate ..)

theorem contour?_pinchTilt_other {s : State} {run : Run} (hrun : s.run = some run) {i : Nat}
    (h : i ≠ run.contour) : (pinchTilt s).contour? i = s.contour? i := by
  obtain he | he := pinchTilt_cases hrun
  · rw [he]
  · rw [he, contour?_evaluate_other _ h, contour?_modLive_other _ _ h]

theorem get?_raw_pinchTilt {s : State} {run : Run} (hrun : s.run = some run) (l : Link) {b : Nat} (h : b ≠ 7) :
    Table.get? ((pinchTilt s).link l).raw b = Table.get? (s.link l).raw b := by
  obtain he | he := pinchTilt_cases hrun
  · rw [he]
  · rw [he, get?_raw_evaluate _ _ _ h]
    cases l <;> rfl

/-- The contour of a pinched run: its tilt mark, and its state where the mark is new (R107, R133, R135). -/
theorem contour?_pinchTilt_same {s : State} {run : Run} {c : Contour} {v : ContourLive} (hrun : s.run = some run)
    (hc : s.contour? run.contour = some c) (hv : c.live = some v) :
    ∃ d w, (pinchTilt s).contour? run.contour = some d ∧ d.live = some w ∧
      w.tilt = (v.tilt || tiltNeeded s run) ∧ w.coverage = v.coverage ∧
      w.state = (if tiltNeeded s run = true ∧ v.tilt = false then
        d.evaluated (s.catchArmed run.contour) s.cfg.permitLead else v.state) := by
  have hlv : c.lv = v := by simp [Contour.lv, hv]
  cases hn : tiltNeeded s run with
  | false => exact ⟨c, v, by rw [pinchTilt_of_not_needed hrun hn, hc], hv, by simp⟩
  | true =>
    cases ht : v.tilt with
    | true => exact ⟨c, v, by rw [pinchTilt_of_needed hrun hn, setTilt_of_set hc (hlv ▸ ht), hc], hv, by simp [ht]⟩
    | false =>
      have hmarked : (s.modLive run.contour (fun v => { v with tilt := true })).contour? run.contour =
          some { c with live := some { v with tilt := true } } := by
        rw [contour?_modLive_same, hc, Option.map_some, hv, Option.map_some]
      obtain ⟨d, hd, hstate⟩ := contour?_evaluate_of_live hmarked rfl
      refine ⟨d, _, ?_, congrArg Contour.live hstate, by simp, rfl, by simp [State.catchArmed]⟩
      rw [pinchTilt_of_needed hrun hn, setTilt_of_clear hc (hlv ▸ ht), hd]

/-- The halt cause PINCH alone. -/
def pinchCause : Causes := ⟨false, false, false, true, false⟩

/-- The episode with its pinch marked (R106). -/
def pinchMarked (e : Episode) (s : State) : State :=
  { s with gap := { s.gap with episode := some { e with pinched := true } } }

/-- The state after a pinch of an episode. -/
def pinched (e : Episode) (s : State) : State := drive (arise pinchCause (pinchTilt (pinchMarked e s)))

theorem exec_pinch_of_episode {e : Episode} {s : State} (he : s.gap.episode = some e) (hp : e.pinched = false) :
    exec .pinch s = .next (pinched e s) := by
  have h : pinch s = pinched e s := by
    simp [pinch, he, hp, State.modGap, pinched, pinchMarked, pinchCause, Causes.none]
  rw [← h]
  rfl

theorem union_pinchCause (c : Causes) : c.union pinchCause = { c with pinch := true } := by
  simp [Causes.union, pinchCause]

theorem union_pinchCause_eq_self_iff (c : Causes) : c.union pinchCause = c ↔ c.pinch = true := by
  rw [union_pinchCause]
  exact ⟨fun h => h ▸ rfl, fun h => by rw [← h]⟩

/-- A phase in which no sample is taken is HALTED, or one that a halt cause leaves alone. -/
theorem halted_or_waiting_of_not_tracking {p : Phase} (h : p.tracking = false) :
    p = .halted ∨ p = .awaitThread ∨ p = .broken ∨ p = .stranded := by
  cases p <;> simp_all [Phase.tracking]

/-- What a pinch does to the run, by its phase, and the HALT it posts (R73, R74, R106). -/
def PinchTaken (run r : Run) (s t : State) : Prop :=
  (run.phase.tracking = true →
    r.phase = .halted ∧ r.halt = some ⟨pinchCause, run.phase⟩ ∧
    ∀ l, l = .motion ∨ l = .cell → Table.get? (t.link l).raw 6 = some (.halt run.number pinchCause run.phase)) ∧
  (∀ h, run.phase = .halted → run.halt = some h →
    r = { run with halt := some ⟨{ h.causes with pinch := true }, h.back⟩ } ∧
    ∀ l, l = .motion ∨ l = .cell → Table.get? (t.link l).raw 6 =
      (if h.causes.pinch then Table.get? (s.link l).raw 6
        else some (.halt run.number { h.causes with pinch := true } h.back))) ∧
  (run.phase = .awaitThread ∨ run.phase = .broken ∨ run.phase = .stranded → r = run)

theorem pinchTaken_of_tracking {s : State} {run : Run} (hrun : s.run = some run) (hp : run.phase.tracking = true) :
    ∃ r, (arise pinchCause s).run = some r ∧ PinchTaken run r s (arise pinchCause s) := by
  rw [arise_of_tracking _ hrun hp]
  refine ⟨_, haltRun_run _ hrun, fun _ => ⟨rfl, rfl, fun l hl => get?_raw_haltRun_halt _ hrun hl⟩,
    fun h hh => ?_, fun hw => ?_⟩
  · simp [hh, Phase.tracking] at hp
  · obtain hw | hw | hw := hw <;> simp [hw, Phase.tracking] at hp

theorem pinchTaken_of_halted {s : State} {run : Run} (hrun : s.run = some run) (hp : run.phase = .halted) :
    ∃ r, (arise pinchCause s).run = some r ∧ PinchTaken run r s (arise pinchCause s) := by
  have hnot : ¬ run.phase.tracking = true := by simp [hp, Phase.tracking]
  have hwait : ¬ (run.phase = .awaitThread ∨ run.phase = .broken ∨ run.phase = .stranded) := by simp [hp]
  cases hh : run.halt with
  | none =>
    have hsame : arise pinchCause s = s := by simp [arise, hrun, hp, hh, Phase.tracking]
    exact ⟨run, by rw [hsame, hrun], fun h => absurd h hnot, fun h _ he => by simp [hh] at he, fun h => absurd h hwait⟩
  | some h =>
    have harise := arise_of_halted pinchCause hrun hp hh
    simp only [union_pinchCause_eq_self_iff] at harise
    by_cases hpinch : h.causes.pinch = true
    · have hsame : run = { run with halt := some ⟨{ h.causes with pinch := true }, h.back⟩ } := by
        rw [← hpinch, ← hh]
      rw [harise, if_pos hpinch]
      refine ⟨run, hrun, fun h => absurd h hnot, fun k _ hk => ?_, fun h => absurd h hwait⟩
      obtain rfl : h = k := Option.some.inj (hh.symm.trans hk)
      exact ⟨hsame, fun l _ => (if_pos hpinch).symm⟩
    · rw [harise, if_neg hpinch, union_pinchCause]
      refine ⟨_, rfl, fun h => absurd h hnot, fun k _ hk => ?_, fun h => absurd h hwait⟩
      obtain rfl : h = k := Option.some.inj (hh.symm.trans hk)
      refine ⟨rfl, fun l hl => ?_⟩
      have hr : (routed l).getLsbD 6 = true := by rcases hl with rfl | rfl <;> decide
      rw [if_neg hpinch]
      exact get?_raw_post_same (.halt ..) _ hr (by simp [Event.bit])

theorem pinchTaken {s : State} {run : Run} (hrun : s.run = some run) :
    ∃ r, (arise pinchCause s).run = some r ∧ PinchTaken run r s (arise pinchCause s) := by
  cases hp : run.phase.tracking with
  | true => exact pinchTaken_of_tracking hrun hp
  | false =>
    obtain hp | hw := halted_or_waiting_of_not_tracking hp
    · exact pinchTaken_of_halted hrun hp
    · have hnot : ¬ run.phase = .halted := by obtain h | h | h := hw <;> simp [h]
      exact ⟨run, by rw [arise_of_waiting _ hrun hw, hrun], fun h => by simp [hp] at h, fun _ h => absurd h hnot,
        fun _ => rfl⟩

theorem pinched_contour? (e : Episode) (s : State) (i : Nat) :
    (pinched e s).contour? i = (pinchTilt (pinchMarked e s)).contour? i := by
  rw [State.contour?, State.contour?, pinched, drive_plate, arise_plate]

section
variable {s : State} {run : Run} (e : Episode) (hrun : s.run = some run)
include hrun

/-- All that a pinch writes: the episode, the map, the run, the sample in progress, the presence flag and the
eligibility mark, the permits with the stray count, and the links. -/
theorem pinched_eq :
    ∃ p r sampling presence eligible stray spark thread m t c, pinched e s = { pinchMarked e s with
      plate := p, run := r, sampling := sampling, sparkOk := spark, threadOk := thread
      gap := { (pinchMarked e s).gap with presence := presence, eligible := eligible, stray := stray }
      motion := m, thread := t, cell := c } := by
  obtain ⟨p, m, t, c, htilted⟩ := pinchTilt_eq (s := pinchMarked e s) hrun
  obtain ⟨r, sampling, presence, eligible, m, t, c, harisen⟩ := arise_eq pinchCause (pinchTilt (pinchMarked e s))
  rw [pinched, harisen, htilted]
  exact ⟨p, r, sampling, presence, eligible, _, _, _, _, _, _, rfl⟩

theorem kept_pinched : Kept s (pinched e s) :=
  kept_trans (t := pinchMarked e s) (kept_refl s)
    (kept_trans (kept_pinchTilt hrun) (kept_trans (kept_arise _ _) (kept_drive _)))

theorem pinchTaken_pinched : ∃ r, (pinched e s).run = some r ∧ PinchTaken run r s (pinched e s) := by
  have hrun' : (pinchTilt (pinchMarked e s)).run = some run := by
    obtain ⟨p, m, t, c, h⟩ := pinchTilt_eq (s := pinchMarked e s) hrun
    rw [h]
    exact hrun
  have hraw (l : Link) : Table.get? ((pinchTilt (pinchMarked e s)).link l).raw 6 = Table.get? (s.link l).raw 6 := by
    rw [get?_raw_pinchTilt (s := pinchMarked e s) hrun _ (by decide)]
    cases l <;> rfl
  obtain ⟨r, hr, htaken⟩ := pinchTaken hrun'
  refine ⟨r, hr, ?_⟩
  simpa only [PinchTaken, pinched, drive_raw, hraw] using htaken

end

/-- Settles O48: the edges and the qualifying write their fields; a pinch asks the Retention Unit first, and then is a
halt cause. -/
theorem shortsAndPinch : Obligations.ShortsAndPinch := by
  unfold Obligations.ShortsAndPinch
  refine ⟨fun s h => ?rise, fun s => exec_shortInFall s, fun run e s hrun he hq => ?qualify,
    fun run e c v s hrun he hp hc hv => ?pinch⟩
  case rise => rw [exec_shortInRise, shortInRise_of_low h]
  case qualify => rw [exec_shortQualify, shortQualify_of_episode hrun he hq]
  case pinch =>
    intro a needed
    have hneeded : tiltNeeded (pinchMarked e s) run = needed := tiltNeeded_of_contour (s := pinchMarked e s) hc
    obtain ⟨d, w, hd, hw, htilt, hcov, hstate⟩ := contour?_pinchTilt_same (s := pinchMarked e s) hrun hc hv
    obtain ⟨r, hr, hhalts, hadds, hwaits⟩ := pinchTaken_pinched e hrun
    obtain ⟨_, _, _, _, _, _, _, _, _, _, _, ht⟩ := pinched_eq e hrun
    rw [hneeded] at htilt hstate
    refine ⟨_, r, d, w, exec_pinch_of_episode he hp, by rw [ht]; rfl, hr, (pinched_contour? e s _).trans hd, hw,
      htilt, hcov, hstate, hhalts, hadds, hwaits, fun i hi => ?other, by rw [ht]; rfl, by rw [ht]; rfl,
      by rw [ht]; rfl, by rw [ht]; rfl, by rw [ht]; exact ⟨rfl, rfl, rfl⟩, by rw [ht]; exact ⟨rfl, rfl⟩,
      kept_pinched e hrun⟩
    case other => exact (pinched_contour? e s i).trans (contour?_pinchTilt_other (s := pinchMarked e s) hrun hi)

/-! ### RUN_CLOSE (R78) -/

theorem abandonSample_eq (s : State) :
    ∃ sampling presence, abandonSample s = { s with
      sampling := sampling, gap := { s.gap with presence := presence } } := by
  unfold abandonSample
  split
  · exact ⟨_, _, rfl⟩
  · exact ⟨s.sampling, s.gap.presence, rfl⟩
  · exact ⟨s.sampling, s.gap.presence, rfl⟩

/-- The withdrawn target memory after the posted target is withdrawn (R122). -/
def withdrawnAfter (p : Planner) : Option Withdrawn :=
  match p.target with
  | some g => if g.begun then some ⟨g.number, g.place, g.contour, g.point⟩ else p.withdrawn
  | none => p.withdrawn

theorem withdrawTarget_of_none {s : State} (h : s.planner.target = none) :
    withdrawTarget s = { s with
      planner := { s.planner with target := none, kerf := none, withdrawn := withdrawnAfter s.planner } } := by
  have hw : withdrawnAfter s.planner = s.planner.withdrawn := by simp [withdrawnAfter, h]
  simp [withdrawTarget, State.modPlanner, hw, h]

theorem withdrawTarget_of_some {s : State} {g : Target} (h : s.planner.target = some g) :
    withdrawTarget s = post (.target none (some (g.number, .withdrawn))) { s with
      planner := { s.planner with
        target := none, kerf := none, lastStopped := some (g.number, .withdrawn)
        withdrawn := withdrawnAfter s.planner } } := by
  cases hb : g.begun <;> simp [withdrawTarget, withdrawnAfter, h, hb, State.modPlanner, stopTarget, postTarget]

/-- Step 1 of R78 writes the planner and the links at most. -/
theorem withdrawTarget_eq (s : State) :
    ∃ last m t c, withdrawTarget s = { s with
      planner := { s.planner with
        target := none, kerf := none, lastStopped := last, withdrawn := withdrawnAfter s.planner }
      motion := m, thread := t, cell := c } := by
  cases h : s.planner.target with
  | none => exact ⟨s.planner.lastStopped, s.motion, s.thread, s.cell, withdrawTarget_of_none h⟩
  | some g => exact ⟨_, _, _, _, withdrawTarget_of_some h⟩

theorem kept_withdrawTarget (s : State) : Kept s (withdrawTarget s) := by
  cases h : s.planner.target with
  | none => rw [withdrawTarget_of_none h]; exact kept_refl s
  | some g => rw [withdrawTarget_of_some h]; exact kept_post ..

/-- The pending TARGET after the posted target is withdrawn (R121, R122). -/
def targetAfter (p : Planner) (old : Option Event) : Option Event :=
  match p.target with
  | some g => some (.target none (some (g.number, .withdrawn)))
  | none => old

/-- TARGET stands with no target posted and the withdrawn one (R121, R122). -/
theorem get?_raw_withdrawTarget_target (s : State) {l : Link} (hl : l = .motion ∨ l = .thread) :
    Table.get? ((withdrawTarget s).link l).raw 4 = targetAfter s.planner (Table.get? (s.link l).raw 4) := by
  have hr : (routed l).getLsbD 4 = true := by rcases hl with rfl | rfl <;> decide
  cases h : s.planner.target with
  | none => rw [withdrawTarget_of_none h, targetAfter, h]; cases l <;> rfl
  | some g =>
    rw [withdrawTarget_of_some h, targetAfter, h]
    exact get?_raw_post_same (.target ..) _ hr (by simp [Event.bit])

theorem get?_raw_withdrawTarget_other (s : State) (l : Link) {b : Nat} (h4 : b ≠ 4) :
    Table.get? ((withdrawTarget s).link l).raw b = Table.get? (s.link l).raw b := by
  cases h : s.planner.target with
  | none => rw [withdrawTarget_of_none h]; cases l <;> rfl
  | some g =>
    rw [withdrawTarget_of_some h, get?_raw_post_other _ _ _ (by simpa [Event.bit] using h4)]
    cases l <;> rfl

/-- The implied tab after step 2 of R78 (R87). -/
def impliedAfter (run : Run) (c : Contour) (a : Nat) (old : Option Stretch) : Option Stretch :=
  if run.holdback = true ∧ a < run.limit then
    some (runStretch run.e0 run.dir c.g.loopLen a (run.limit + c.width))
  else old

/-- The contour entry after step 2 of R78. -/
def tabRecorded (run : Run) (c : Contour) (v : ContourLive) (a : Nat) : Contour :=
  { c with live := some { v with implied := impliedAfter run c a v.implied } }

/-- Step 2 of R78 writes the contour table at most. -/
theorem recordImplied_eq (run : Run) (s : State) :
    ∃ contours, recordImplied run s = { s with plate := { s.plate with contours := contours } } := by
  simp only [recordImplied]
  split
  · exact ⟨s.plate.contours, rfl⟩
  · split
    · exact ⟨_, rfl⟩
    · exact ⟨s.plate.contours, rfl⟩

theorem contour?_recordImplied_other (run : Run) (s : State) {i : Nat} (h : i ≠ run.contour) :
    (recordImplied run s).contour? i = s.contour? i := by
  simp only [recordImplied]
  split
  · rfl
  · split
    · exact contour?_modLive_other _ _ h
    · rfl

theorem contour?_recordImplied_same {run : Run} {s : State} {c : Contour} {v : ContourLive}
    (hc : s.contour? run.contour = some c) (hv : c.live = some v) :
    (recordImplied run s).contour? run.contour =
      some (tabRecorded run c v s.prog.a) := by
  simp only [recordImplied, hc, tabRecorded, impliedAfter]
  split
  · rw [contour?_modLive_same, hc, Option.map_some, hv, Option.map_some]
  · rw [hc, ← hv]

/-- The wire record after step 3 of R78. -/
def wireAfter (run : Run) (pos : Point) (w : Wire) : Wire :=
  match w with
  | .hole h => if run.leftHole then .kerf run.contour pos else .hole h
  | .kerf k p => if run.leftHole then .kerf run.contour pos else .kerf k p
  | .unknown => .unknown
  | .none => .none

theorem leaveWire_eq (run : Run) (s : State) :
    leaveWire run s = { s with planner := { s.planner with wire := wireAfter run s.pos s.planner.wire } } := by
  have hsame (w : Wire) (h : s.planner.wire = w) : { s.planner with wire := w } = s.planner := by rw [← h]
  cases hleft : run.leftHole <;> cases hw : s.planner.wire <;>
    simp [leaveWire, hleft, hw, wireAfter, State.modPlanner, hsame]

/-- The state in which RUN_CLOSE has the run's contour evaluated: steps 1 to 6 of R78 done. -/
def runEnded (run : Run) (s : State) : State :=
  endRun run (leaveWire run (recordImplied run (withdrawTarget (abandonSample s))))

/-- All that steps 1 to 6 of R78 write. -/
theorem runEnded_eq (run : Run) (s : State) :
    ∃ contours sampling presence last m t c, runEnded run s = { s with
      plate := { s.plate with contours := contours }
      sampling := sampling
      planner := { s.planner with
        target := none, kerf := none, lastStopped := last, withdrawn := withdrawnAfter s.planner
        wire := wireAfter run s.pos s.planner.wire }
      lastRun := some ⟨{ run with warn := false }, s.prog.r, s.prog.a, s.prog.lam, s.prog.dev, run.phase⟩
      run := none
      prog := Progress.idle
      gap := { s.gap with
        episode := none, settle := none, mismatch := 0, eligible := false, presence := presence }
      trace := { s.trace with decimation := 0, tally := 0 }
      motion := m, thread := t, cell := c } := by
  obtain ⟨sampling, presence, habandoned⟩ := abandonSample_eq s
  obtain ⟨last, m, t, c, hwithdrawn⟩ := withdrawTarget_eq (abandonSample s)
  obtain ⟨contours, himplied⟩ := recordImplied_eq run (withdrawTarget (abandonSample s))
  rw [runEnded, leaveWire_eq, himplied, hwithdrawn, habandoned]
  exact ⟨contours, sampling, presence, last, m, t, c, rfl⟩

theorem kept_runEnded (run : Run) (s : State) : Kept s (runEnded run s) := by
  obtain ⟨sampling, presence, habandoned⟩ := abandonSample_eq s
  obtain ⟨contours, himplied⟩ := recordImplied_eq run (withdrawTarget (abandonSample s))
  have hfirst : Kept s (abandonSample s) := by rw [habandoned]; exact kept_refl s
  have hlast : Kept (withdrawTarget (abandonSample s)) (runEnded run s) := by
    rw [runEnded, leaveWire_eq, himplied]
    exact kept_refl (withdrawTarget (abandonSample s))
  exact kept_trans hfirst (kept_trans (kept_withdrawTarget _) hlast)

theorem runEnded_link (run : Run) (s : State) (l : Link) :
    (runEnded run s).link l = (withdrawTarget (abandonSample s)).link l := by
  obtain ⟨contours, himplied⟩ := recordImplied_eq run (withdrawTarget (abandonSample s))
  rw [runEnded, leaveWire_eq, himplied]
  cases l <;> rfl

theorem abandonSample_link (s : State) (l : Link) : (abandonSample s).link l = s.link l := by
  obtain ⟨sampling, presence, h⟩ := abandonSample_eq s
  rw [h]
  cases l <;> rfl

theorem get?_raw_runEnded_target (run : Run) (s : State) {l : Link} (hl : l = .motion ∨ l = .thread) :
    Table.get? ((runEnded run s).link l).raw 4 = targetAfter s.planner (Table.get? (s.link l).raw 4) := by
  rw [runEnded_link, get?_raw_withdrawTarget_target _ hl, abandonSample_planner, abandonSample_link]

theorem get?_raw_runEnded_other (run : Run) (s : State) (l : Link) {b : Nat} (h4 : b ≠ 4) :
    Table.get? ((runEnded run s).link l).raw b = Table.get? (s.link l).raw b := by
  rw [runEnded_link, get?_raw_withdrawTarget_other _ _ h4, abandonSample_link]

theorem withdrawTarget_plate (s : State) : (withdrawTarget s).plate = s.plate := by
  obtain ⟨last, m, t, c, h⟩ := withdrawTarget_eq s
  rw [h]

theorem withdrawTarget_prog (s : State) : (withdrawTarget s).prog = s.prog := by
  obtain ⟨last, m, t, c, h⟩ := withdrawTarget_eq s
  rw [h]

/-- The map at the end of the run is the one that step 2 of R78 leaves. -/
theorem runEnded_contour? (run : Run) (s : State) (i : Nat) :
    (runEnded run s).contour? i = (recordImplied run (withdrawTarget (abandonSample s))).contour? i := by
  rw [runEnded, leaveWire_eq]
  rfl

theorem withdrawn_contour? (s : State) (i : Nat) :
    (withdrawTarget (abandonSample s)).contour? i = s.contour? i := by
  rw [State.contour?, withdrawTarget_plate, abandonSample_plate, State.contour?]

theorem contour?_runEnded_other (run : Run) (s : State) {i : Nat} (h : i ≠ run.contour) :
    (runEnded run s).contour? i = s.contour? i := by
  rw [runEnded_contour?, contour?_recordImplied_other _ _ h, withdrawn_contour?]

theorem contour?_runEnded_same {run : Run} {s : State} {c : Contour} {v : ContourLive}
    (hc : s.contour? run.contour = some c) (hv : c.live = some v) :
    (runEnded run s).contour? run.contour =
      some (tabRecorded run c v s.prog.a) := by
  rw [runEnded_contour?, contour?_recordImplied_same ((withdrawn_contour? s _).trans hc) hv, withdrawTarget_prog,
    abandonSample_prog]

theorem runEnded_hole? (run : Run) (s : State) (i : Nat) : (runEnded run s).hole? i = s.hole? i := by
  obtain ⟨_, _, _, _, _, _, _, h⟩ := runEnded_eq run s
  rw [h]
  rfl

/-! #### The evaluation at the end (R134, R140) -/

/-- An evaluation changes a state, or its contour has the state that R133 gives already. -/
theorem evaluate_of_same {s : State} {i : Nat} {c : Contour} (hc : s.contour? i = some c)
    (h : c.evaluated (s.catchArmed i) s.cfg.permitLead = c.lv.state) : evaluate i s = s := by
  simp [evaluate, hc, h]

theorem evaluate_of_changed {s : State} {i : Nat} {c : Contour} (hc : s.contour? i = some c)
    (h : c.evaluated (s.catchArmed i) s.cfg.permitLead ≠ c.lv.state) :
    evaluate i s = changeRetention i (c.evaluated (s.catchArmed i) s.cfg.permitLead) s := by
  simp [evaluate, hc, h]

theorem changeRetention_holes (i : Nat) (r : RState) (s : State) :
    (changeRetention i r s).plate.holes = if r.isFull then loseInside i s.plate.holes else s.plate.holes := by
  unfold changeRetention
  split <;> rfl

/-- A change of retention state writes the contour and hole tables of the map alone. -/
theorem changeRetention_plate (i : Nat) (r : RState) (s : State) :
    (changeRetention i r s).plate = { s.plate with
      contours := (changeRetention i r s).plate.contours, holes := (changeRetention i r s).plate.holes } := by
  unfold changeRetention
  split <;> rfl

theorem evaluate_plate (i : Nat) (s : State) :
    ∃ contours holes, (evaluate i s).plate = { s.plate with contours := contours, holes := holes } := by
  obtain h | ⟨r, h⟩ := evaluate_cases i s
  · exact ⟨s.plate.contours, s.plate.holes, by rw [h]⟩
  · exact ⟨_, _, by rw [h]; exact changeRetention_plate i r s⟩

/-- CONTOUR_STATE holds the state a contour has changed to (R140). -/
theorem get?_raw_changeRetention (i : Nat) (r : RState) (s : State) {l : Link} (hl : l = .motion ∨ l = .cell) :
    ∃ m, Table.get? ((changeRetention i r s).link l).raw 7 = some (.contourState m) ∧ Table.get? m i = some r := by
  have hbit : hasBit (routed l) 7 = true := by rcases hl with rfl | rfl <;> decide
  have hr : hasBit (routed l) (Event.contourState [(i, r)]).bit = true := hbit
  obtain ⟨p, hp⟩ := changeRetention_eq i r s
  have hraw : Table.get? ((changeRetention i r s).link l).raw 7 =
      some (mergeDetail (Table.get? (s.link l).raw 7) (.contourState [(i, r)])) := by
    rw [hp, post_link, LinkState.posted, if_pos hr]
    cases l <;> exact Table.get?_set_same ..
  rw [hraw]
  unfold mergeDetail
  split
  · rename_i held added _ hadded
    obtain rfl : [(i, r)] = added := Event.contourState.inj hadded
    exact ⟨_, rfl, Table.get?_set_same ..⟩
  · exact ⟨_, rfl, by simp [Table.get?]⟩

theorem isFull_iff (r : RState) : r.isFull = true ↔ r = .free ∨ r = .loose ∨ r = .removed := by
  cases r <;> simp [RState.isFull]

/-- A hole that is LOST where it was open or blocked. -/
def lost (h : Hole) : Hole := { h with live := h.live.map (fun x => { x with state := .lost }) }

theorem get?_loseInside (i : Nat) (holes : Table Hole) (k : Nat) :
    Table.get? (loseInside i holes) k =
      (Table.get? holes k).map (fun h => if h.owner = i ∧ h.loc = .inside then lost h else h) := by
  rw [loseInside, Table.get?_mapAll]
  simp only [Bool.and_eq_true, beq_iff_eq]
  rfl

/-- An evaluation leaves a hole that is another contour's or is OUTSIDE. -/
theorem hole?_evaluate_other (i : Nat) {s : State} {k : Nat} {h : Hole} (hk : s.hole? k = some h)
    (hout : h.owner ≠ i ∨ h.loc = .outside) : (evaluate i s).hole? k = some h := by
  have hnot : ¬ (h.owner = i ∧ h.loc = .inside) := by
    rintro ⟨howner, hloc⟩
    simp [howner, hloc] at hout
  obtain he | ⟨r, he⟩ := evaluate_cases i s
  · rw [he, hk]
  · rw [State.hole?] at hk
    rw [he, State.hole?, changeRetention_holes]
    split
    · rw [get?_loseInside, hk, Option.map_some, if_neg hnot]
    · exact hk

/-- An INSIDE hole of the contour becomes LOST where its coverage has become full (R134). -/
theorem hole?_evaluate_inside {s : State} {i k : Nat} {c : Contour} {h : Hole} (hc : s.contour? i = some c)
    (hk : s.hole? k = some h) (howner : h.owner = i) (hin : h.loc = .inside) :
    (evaluate i s).hole? k =
      some (if c.evaluated (s.catchArmed i) s.cfg.permitLead ≠ c.lv.state ∧
        (c.evaluated (s.catchArmed i) s.cfg.permitLead).isFull = true then lost h else h) := by
  by_cases hsame : c.evaluated (s.catchArmed i) s.cfg.permitLead = c.lv.state
  · rw [evaluate_of_same hc hsame, hk, if_neg (fun hch => hch.1 hsame)]
  · rw [State.hole?] at hk
    rw [evaluate_of_changed hc hsame, State.hole?, changeRetention_holes]
    by_cases hfull : (c.evaluated (s.catchArmed i) s.cfg.permitLead).isFull = true
    · rw [if_pos hfull, if_pos ⟨hsame, hfull⟩, get?_loseInside, hk, Option.map_some, if_pos ⟨howner, hin⟩]
    · rw [if_neg hfull, if_neg (fun hch => hfull hch.2), hk]

/-- CONTOUR_STATE at an evaluation (R134, R140). -/
theorem get?_raw_evaluate_contourState {s : State} {i : Nat} {c : Contour} (hc : s.contour? i = some c) {l : Link}
    (hl : l = .motion ∨ l = .cell) :
    (c.evaluated (s.catchArmed i) s.cfg.permitLead = c.lv.state →
      Table.get? ((evaluate i s).link l).raw 7 = Table.get? (s.link l).raw 7) ∧
    (c.evaluated (s.catchArmed i) s.cfg.permitLead ≠ c.lv.state →
      ∃ m, Table.get? ((evaluate i s).link l).raw 7 = some (.contourState m) ∧
        Table.get? m i = some (c.evaluated (s.catchArmed i) s.cfg.permitLead)) := by
  refine ⟨fun h => by rw [evaluate_of_same hc h], fun h => ?_⟩
  rw [evaluate_of_changed hc h]
  exact get?_raw_changeRetention _ _ _ hl

/-! #### The reply and the state after it -/

theorem closeRun_def (run : Run) (s : State) :
    closeRun run s = post (.runPhase run.number .closed) (evaluate run.contour (runEnded run s)) := rfl

/-- The reply body of an accepted RUN_CLOSE. -/
def closedBody (run : Run) (s : State) : List Byte :=
  0 :: (natField 2 run.number ++ [run.phase.code] ++ natField 4 s.prog.a)

/-- The state after an accepted RUN_CLOSE: its effects, the outputs that follow them, and the reply. -/
def runClosed (tag : Byte) (run : Run) (s : State) : State :=
  replied .motion .runClose tag (closedBody run s) (drive (closeRun run s))

theorem exec_runClose_of_run (tag : Byte) {run : Run} {s : State} (h : Serves .motion .runClose s)
    (hrun : s.run = some run) : exec (.runClose tag []) s = .next (runClosed tag run s) := by
  have hclose : runClose () s = accepted (closeRun run s) (fun _ => closedBody run s) := by
    simp [runClose, hrun, closedBody, Status.code]
  rw [exec_runClose tag h, hclose, finish_accepted]
  rfl

theorem exec_runClose_of_no_run (tag : Byte) {s : State} (h : Serves .motion .runClose s) (hrun : s.run = none) :
    exec (.runClose tag []) s = .next (replied .motion .runClose tag [0x01] s) := by
  have hclose : runClose () s = refuse .state s := by simp [runClose, hrun]
  rw [exec_runClose tag h, hclose, finish_refuse]
  rfl

theorem runClosed_reply (tag : Byte) (run : Run) (s : State) :
    (runClosed tag run s).motion.busy.bind (·.reply) = some (frameOf 0x92 tag (closedBody run s)) := rfl

theorem kept_runClosed (tag : Byte) (run : Run) (s : State) : Kept s (runClosed tag run s) :=
  kept_trans (kept_runEnded run s) (kept_trans (kept_evaluate _ _)
    (kept_trans (kept_post _ _) (kept_trans (kept_drive _) (kept_replied ..))))

theorem runClosed_plate (tag : Byte) (run : Run) (s : State) :
    (runClosed tag run s).plate = (evaluate run.contour (runEnded run s)).plate := by
  rw [runClosed, replied, answerWith_plate, drive_plate, closeRun_def, post_plate]

theorem runClosed_contour? (tag : Byte) (run : Run) (s : State) (i : Nat) :
    (runClosed tag run s).contour? i = (evaluate run.contour (runEnded run s)).contour? i := by
  rw [State.contour?, runClosed_plate, State.contour?]

theorem runClosed_hole? (tag : Byte) (run : Run) (s : State) (i : Nat) :
    (runClosed tag run s).hole? i = (evaluate run.contour (runEnded run s)).hole? i := by
  rw [State.hole?, runClosed_plate, State.hole?]

theorem replied_raw (l m : Link) (k : Req) (tag : Byte) (body : List Byte) (s : State) :
    ((replied l k tag body s).link m).raw = (s.link m).raw := by
  cases l <;> cases m <;> rfl

theorem runClosed_raw (tag : Byte) (run : Run) (s : State) (l : Link) :
    ((runClosed tag run s).link l).raw = ((closeRun run s).link l).raw := by
  rw [runClosed, replied_raw, drive_raw]

/-- RUN_PHASE stands with CLOSED (R64, R78). -/
theorem get?_raw_runClosed_phase (tag : Byte) (run : Run) (s : State) {l : Link} (hl : l = .motion ∨ l = .cell) :
    Table.get? ((runClosed tag run s).link l).raw 0 = some (.runPhase run.number .closed) := by
  have hr : (routed l).getLsbD 0 = true := by rcases hl with rfl | rfl <;> decide
  rw [runClosed_raw, closeRun_def]
  exact get?_raw_post_same (.runPhase ..) _ hr (by simp [Event.bit])

theorem get?_raw_runClosed (tag : Byte) (run : Run) (s : State) (l : Link) {b : Nat} (h0 : b ≠ 0) :
    Table.get? ((runClosed tag run s).link l).raw b =
      Table.get? ((evaluate run.contour (runEnded run s)).link l).raw b := by
  rw [runClosed_raw, closeRun_def, get?_raw_post_other _ _ _ (by simpa [Event.bit] using h0)]

/-- With no run and no target both permits are low, and SPARK_OK does not rise (R144, R145). -/
theorem drive_of_idle {s : State} (hrun : s.run = none) (ht : s.planner.target = none) :
    drive s = driveAttn { s with sparkOk := false, threadOk := false } := by
  have hspark : s.sparkCond = false := by simp [State.sparkCond, hrun]
  have hthread : s.threadCond false = false := by simp [State.threadCond, ht]
  simp [drive, drivePermits, hspark, hthread]

/-- All that an accepted RUN_CLOSE writes: what the end of the run writes, the two tables of the map, the permits, and
the links. SPARK_OK cannot rise without a run, so the stray count stays. -/
theorem runClosed_eq (tag : Byte) (run : Run) (s : State) :
    ∃ contours holes sampling presence last m t c, runClosed tag run s = { s with
      plate := { s.plate with contours := contours, holes := holes }
      sampling := sampling
      planner := { s.planner with
        target := none, kerf := none, lastStopped := last, withdrawn := withdrawnAfter s.planner
        wire := wireAfter run s.pos s.planner.wire }
      lastRun := some ⟨{ run with warn := false }, s.prog.r, s.prog.a, s.prog.lam, s.prog.dev, run.phase⟩
      run := none
      prog := Progress.idle
      gap := { s.gap with
        episode := none, settle := none, mismatch := 0, eligible := false, presence := presence }
      sparkOk := false, threadOk := false
      trace := { s.trace with decimation := 0, tally := 0 }
      motion := m, thread := t, cell := c } := by
  obtain ⟨contours, sampling, presence, last, m, t, c, hended⟩ := runEnded_eq run s
  obtain ⟨contours', holes, hplate⟩ := evaluate_plate run.contour (runEnded run s)
  obtain ⟨p, m', t', c', hevaluated⟩ := evaluate_eq run.contour (runEnded run s)
  have hp : p = { s.plate with contours := contours', holes := holes } := by
    rw [hevaluated, hended] at hplate
    exact hplate
  have hclosed : closeRun run s = post (.runPhase run.number .closed) { runEnded run s with
      plate := p, motion := m', thread := t', cell := c' } := by
    rw [closeRun_def, hevaluated]
  rw [runClosed, hclosed, hp, hended, drive_of_idle rfl rfl]
  exact ⟨contours', holes, sampling, presence, last, _, _, _, rfl⟩

section
variable (tag : Byte) {run : Run} {s : State} {c : Contour} {v : ContourLive}
  (hc : s.contour? run.contour = some c) (hv : c.live = some v)
include hc hv

/-- The contour that RUN_CLOSE evaluates: the implied tab is recorded in it, and its state is what R133 gives it then. -/
theorem contour?_runClosed_same :
    ∃ d, (runClosed tag run s).contour? run.contour = some d ∧
      d = { c with live := some { v with
        implied := impliedAfter run c s.prog.a v.implied
        state := d.evaluated (s.catchArmed run.contour) s.cfg.permitLead } } := by
  obtain ⟨_, _, _, _, _, _, _, hended⟩ := runEnded_eq run s
  obtain ⟨d, hd, hstate⟩ := contour?_evaluate_of_live (contour?_runEnded_same hc hv) rfl
  have hcfg : (runEnded run s).cfg = s.cfg := by rw [hended]
  have harmed : (runEnded run s).catchArmed run.contour = s.catchArmed run.contour := by rw [hended]; rfl
  rw [hcfg, harmed] at hstate
  exact ⟨d, (runClosed_contour? tag run s _).trans hd, hstate⟩

/-- What the change of the contour's state does to its INSIDE holes and to CONTOUR_STATE (R134, R140). -/
theorem runClosed_evaluated {d : Contour} {w : ContourLive}
    (hd : (runClosed tag run s).contour? run.contour = some d) (hw : d.live = some w) :
    (∀ i h, s.hole? i = some h → h.owner = run.contour → h.loc = .inside →
      (runClosed tag run s).hole? i = some (if w.state ≠ v.state ∧
        (w.state = .free ∨ w.state = .loose ∨ w.state = .removed) then lost h else h)) ∧
    (∀ l, l = .motion ∨ l = .cell →
      (w.state = v.state →
        Table.get? ((runClosed tag run s).link l).raw 7 = Table.get? (s.link l).raw 7) ∧
      (w.state ≠ v.state → ∃ m, Table.get? ((runClosed tag run s).link l).raw 7 = some (.contourState m) ∧
        Table.get? m run.contour = some w.state)) := by
  have hc' := contour?_runEnded_same hc hv
  have hstate : w.state = (tabRecorded run c v s.prog.a).evaluated ((runEnded run s).catchArmed run.contour)
      (runEnded run s).cfg.permitLead := by
    rw [runClosed_contour?, contour?_evaluate_same hc', Option.some_inj] at hd
    rw [← hd, withState_of_live rfl, Option.some_inj] at hw
    rw [← hw]
  rw [hstate]
  refine ⟨fun i h hh howner hin => ?_, fun l hl => ?_⟩
  · rw [runClosed_hole?, hole?_evaluate_inside hc' ((runEnded_hole? run s i).trans hh) howner hin]
    simp only [isFull_iff]
    rfl
  · rw [get?_raw_runClosed _ _ _ _ (by decide), ← get?_raw_runEnded_other run s l (b := 7) (by decide)]
    exact get?_raw_evaluate_contourState hc' hl

end

/-- Settles O26: the run's end written out step by step, then the evaluation of its contour, then RUN_PHASE. -/
theorem runCloseEndsTheRun : Obligations.RunCloseEndsTheRun := by
  unfold Obligations.RunCloseEndsTheRun
  refine ⟨fun tag run s h hrun => ?closed, fun tag s h hrun => exec_runClose_of_no_run tag h hrun⟩
  obtain ⟨_, _, _, _, _, _, _, _, ht⟩ := runClosed_eq tag run s
  refine ⟨_, exec_runClose_of_run tag h hrun, by rw [ht], by rw [ht], by rw [ht], by rw [ht], by rw [ht], by rw [ht],
    by rw [ht], by rw [ht]; rfl, by rw [ht]; rfl, by rw [ht], by rw [ht], by rw [ht], by rw [ht], by rw [ht], by rw [ht],
    fun i hi => ?otherContour, fun c v hc hv => contour?_runClosed_same tag hc hv, fun i h hh hout => ?otherHole,
    fun c v d w hc hv hd hw => runClosed_evaluated tag hc hv hd hw, fun l hl => get?_raw_runClosed_phase tag run s hl,
    fun l hl => ?target, fun l b h0 h4 h7 => ?otherEvents, runClosed_reply tag run s, by rw [ht], by rw [ht],
    by rw [ht]; exact ⟨rfl, rfl, rfl⟩, kept_runClosed tag run s⟩
  case otherContour => rw [runClosed_contour?, contour?_evaluate_other _ hi, contour?_runEnded_other _ _ hi]
  case otherHole => rw [runClosed_hole?, hole?_evaluate_other _ ((runEnded_hole? run s i).trans hh) hout]
  case target =>
    rw [get?_raw_runClosed _ _ _ _ (by decide), get?_raw_evaluate _ _ _ (by decide), get?_raw_runEnded_target _ _ hl]
    rfl
  case otherEvents =>
    rw [get?_raw_runClosed _ _ _ _ h0, get?_raw_evaluate _ _ _ h7, get?_raw_runEnded_other _ _ _ h4]

/-! ### Entries to a phase (R64, R69, R73) -/

theorem setPhase_run (p : Phase) {s : State} {run : Run} (h : s.run = some run) :
    (setPhase p s).run = some { run with phase := p } := by
  simp only [setPhase, h]
  split <;> rfl

theorem setPhase_link (p : Phase) {s : State} {run : Run} (h : s.run = some run) (l : Link) :
    (setPhase p s).link l = (s.link l).posted l (.runPhase run.number (.phase p)) := by
  simp only [setPhase, h]
  split <;> cases l <;> rfl

/-- A phase change writes the eligibility mark of the Gap Monitor at most (R102). -/
theorem setPhase_gap (p : Phase) (s : State) : ∃ e, (setPhase p s).gap = { s.gap with eligible := e } := by
  unfold setPhase
  split
  · exact ⟨s.gap.eligible, rfl⟩
  · dsimp only
    split
    · exact ⟨s.gap.eligible, rfl⟩
    · exact ⟨false, rfl⟩

theorem entryTrigger_link (p : Phase) (s : State) (l : Link) : (entryTrigger p s).link l = s.link l := by
  cases p <;> cases l <;> simp [entryTrigger, State.link]

/-- The settle window after the trigger of settle_on_resume (R69, R111). -/
def settledOnResume (cfg : ConfigRecord) (old : Option Nat) : Option Nat :=
  if cfg.settleOnResume = true ∧ cfg.settleTime ≠ 0 then some (cfg.settleTime * 10000) else old

theorem settleOnResume_settle (s : State) : (settleOnResume s).gap.settle = settledOnResume s.cfg s.gap.settle := by
  unfold settleOnResume settleTrigger State.modGap settledOnResume
  by_cases hon : s.cfg.settleOnResume = true <;> by_cases ht : s.cfg.settleTime = 0 <;> simp [hon, ht, Config.refsPerMs]

theorem entryTrigger_violation (p : Phase) (s : State) : (entryTrigger p s).gap.violation = s.gap.violation := by
  cases p <;> simp only [entryTrigger, settleOnResume, settleTrigger, State.modGap]
  split <;> rfl

/-- The ENCODER condition is a matter of the axes. -/
theorem encoderCond_of_axes {s t : State} (hx : t.axisX = s.axisX) (hy : t.axisY = s.axisY) :
    t.encoderCond = s.encoderCond := by
  simp [State.encoderCond, State.lineFault, State.suspect, hx, hy]

theorem nothingStands_of_eq {s t : State} (h : NothingStands s) (hx : t.axisX = s.axisX) (hy : t.axisY = s.axisY)
    (hv : t.gap.violation = s.gap.violation) : NothingStands t := by
  obtain ⟨henc, hviol⟩ := h
  exact ⟨(encoderCond_of_axes hx hy).trans henc, hv.trans hviol⟩

/-- Where nothing stands, an entry to a phase stays. -/
theorem haltIfStanding_of_nothing {s : State} (h : NothingStands s) : haltIfStanding s = s := by
  obtain ⟨henc, hviol⟩ := h
  simp [haltIfStanding, State.standing, Causes.any, Causes.none, henc, hviol]

theorem enterTracking_of_nothing (p : Phase) {s : State} (h : NothingStands s) :
    enterTracking p s = entryTrigger p (setPhase p s) := by
  obtain ⟨e, hgap⟩ := setPhase_gap p s
  refine haltIfStanding_of_nothing (nothingStands_of_eq h (by simp) (by simp) ?_)
  rw [entryTrigger_violation, hgap]

/-- An entry to a phase stays, or a halt follows it at once, before which a free value is taken and the permits are
driven at most. -/
theorem haltIfStanding_cases (s : State) :
    haltIfStanding s = s ∨
      ∃ t, t.run = s.run ∧ (∀ l, t.link l = s.link l) ∧ haltIfStanding s = haltRun s.standing t := by
  unfold haltIfStanding
  split
  · dsimp only
    split
    · split
      · exact .inr ⟨drivePermits (takeFree s).2, rfl, fun l => by cases l <;> rfl, rfl⟩
      · exact .inr ⟨(takeFree s).2, rfl, fun l => by cases l <;> rfl, rfl⟩
    · exact .inr ⟨s, rfl, fun _ => rfl, rfl⟩
  · exact .inl rfl

/-- An entry to a phase writes the phase and the halt of the run record, whatever stands. -/
theorem enterTracking_run (p : Phase) {s : State} {run : Run} (h : s.run = some run) :
    ∃ phase halt, (enterTracking p s).run = some { run with phase := phase, halt := halt } := by
  have hentered : (entryTrigger p (setPhase p s)).run = some { run with phase := p } := by
    rw [entryTrigger_run, setPhase_run p h]
  obtain he | ⟨t, ht, -, he⟩ := haltIfStanding_cases (entryTrigger p (setPhase p s))
  · exact ⟨p, run.halt, by rw [enterTracking, he, hentered]⟩
  · exact ⟨_, _, by rw [enterTracking, he, haltRun_run _ (ht.trans hentered)]⟩

/-- It posts RUN_PHASE and HALT at most. -/
theorem get?_raw_enterTracking (p : Phase) {s : State} {run : Run} (h : s.run = some run) (l : Link) {b : Nat}
    (h0 : b ≠ 0) (h6 : b ≠ 6) :
    Table.get? ((enterTracking p s).link l).raw b = Table.get? (s.link l).raw b := by
  have hentered : (entryTrigger p (setPhase p s)).run = some { run with phase := p } := by
    rw [entryTrigger_run, setPhase_run p h]
  have hraw : Table.get? ((entryTrigger p (setPhase p s)).link l).raw b = Table.get? (s.link l).raw b := by
    rw [entryTrigger_link, setPhase_link p h, get?_posted_other _ _ _ _ h0]
  obtain he | ⟨t, ht, hlink, he⟩ := haltIfStanding_cases (entryTrigger p (setPhase p s))
  · rw [enterTracking, he, hraw]
  · rw [enterTracking, he, haltRun_link _ (ht.trans hentered), get?_posted_other _ _ _ _ h0,
      get?_posted_other _ _ _ _ h6, hlink, hraw]

section
variable (p : Phase) {s : State} {run : Run} (hn : NothingStands s) (h : s.run = some run)
include hn h

theorem enterTracking_run_of_nothing : (enterTracking p s).run = some { run with phase := p } := by
  rw [enterTracking_of_nothing p hn, entryTrigger_run, setPhase_run p h]

/-- RUN_PHASE stands with the phase entered on the Motion Link and the Cell Link (R64). -/
theorem get?_raw_enterTracking_phase {l : Link} (hl : l = .motion ∨ l = .cell) :
    Table.get? ((enterTracking p s).link l).raw 0 = some (.runPhase run.number (.phase p)) := by
  have hr : (routed l).getLsbD 0 = true := by rcases hl with rfl | rfl <;> decide
  rw [enterTracking_of_nothing p hn, entryTrigger_link, setPhase_link p h]
  exact get?_posted_same (s.link l) l (.runPhase run.number (.phase p)) hr (by simp [Event.bit])

end

/-- CUTTING is entered with the trigger of settle_on_resume, AT_LIMIT with none (R69). -/
theorem enterTracking_settle_cutting {s : State} (hn : NothingStands s) :
    (enterTracking .cutting s).gap.settle = settledOnResume s.cfg s.gap.settle := by
  obtain ⟨e, hgap⟩ := setPhase_gap .cutting s
  rw [enterTracking_of_nothing _ hn, entryTrigger, settleOnResume_settle, setPhase_cfg, hgap]

theorem enterTracking_settle_atLimit {s : State} (hn : NothingStands s) :
    (enterTracking .atLimit s).gap.settle = s.gap.settle := by
  obtain ⟨e, hgap⟩ := setPhase_gap .atLimit s
  rw [enterTracking_of_nothing _ hn, entryTrigger, hgap]

/-! ### Limits computed again (R68, R89) -/

theorem warnAfterLimits_eq (cfg : ConfigRecord) (prog : Progress) (run : Run) :
    warnAfterLimits cfg prog run = { run with
      warn := run.warn && !decide (((cfg.warnDist + cfg.warnHyst : Nat) : Int) < remaining run prog) } := by
  unfold warnAfterLimits
  generalize decide (((cfg.warnDist + cfg.warnHyst : Nat) : Int) < remaining run prog) = clear
  split
  · rename_i h
    have hwarn : (run.warn && !clear) = false := by simp_all
    rw [hwarn]
  · rename_i h
    have hwarn : (run.warn && !clear) = run.warn := by
      cases hw : run.warn <;> simp_all
    rw [hwarn]

/-- The return phase AT_LIMIT gives way to CUTTING; another one stays. -/
def backAfterLimits (h : Halt) : Halt := if h.back = .atLimit then { h with back := .cutting } else h

theorem haltAfterLimits_eq (prog : Progress) (run : Run) :
    haltAfterLimits prog run = { run with
      halt := if run.phase = .halted ∧ testedValue run prog < run.stop then
          run.halt.map backAfterLimits
        else run.halt } := by
  unfold haltAfterLimits
  split
  · rename_i causes hp hh
    by_cases hlt : testedValue run prog < run.stop
    · have hreached : stopReached run prog = false := by simpa [stopReached] using hlt
      simp [hreached, hp, hlt, hh, backAfterLimits]
    · have hreached : stopReached run prog = true := by simpa [stopReached] using hlt
      simp [hreached, hlt]
  · rename_i hother
    have hsame : run.phase = .halted → run.halt.map backAfterLimits = run.halt := by
      intro hp
      cases hh : run.halt with
      | none => rfl
      | some h =>
        have hback : h.back ≠ .atLimit := fun hb => hother h.causes hp (by rw [hh, ← hb])
        simp [backAfterLimits, hback]
    have hhalt : (if run.phase = .halted ∧ testedValue run prog < run.stop then
        run.halt.map backAfterLimits else run.halt) = run.halt := by
      split
      · exact hsame (by tauto)
      · rfl
    rw [hhalt]

/-- The run record with limits computed again. -/
def limitsTaken (cfg : ConfigRecord) (prog : Progress) (run : Run) (lim : Limits) : Run :=
  haltAfterLimits prog (warnAfterLimits cfg prog (run.withLimits lim))

theorem limitsTaken_eq (cfg : ConfigRecord) (prog : Progress) (run : Run) (lim : Limits) :
    limitsTaken cfg prog run lim = { run with
      limit := lim.limit, stop := lim.stop, final := lim.final, holdback := lim.holdback
      warn := run.warn &&
        !decide (((cfg.warnDist + cfg.warnHyst : Nat) : Int) < lim.stop - testedValue run prog)
      halt := if run.phase = .halted ∧ testedValue run prog < lim.stop then
          run.halt.map backAfterLimits
        else run.halt } := by
  rw [limitsTaken, haltAfterLimits_eq, warnAfterLimits_eq]
  rfl

/-- The state with the new limits in the run record, CATCH_NEEDED posted where they newly hold the run back. -/
def limitsPosted (run : Run) (lim : Limits) (s : State) : State :=
  postCatchNeeded run run.holdback lim
    { abandonSample s with run := some (limitsTaken s.cfg s.prog run lim) }

/-- The computation that R89 makes for the open run. -/
theorem recomputeLimits_eq {s : State} {run : Run} {c : Contour} (hrun : s.run = some run)
    (hc : s.contour? run.contour = some c) :
    recomputeLimits s =
      if run.phase = .atLimit ∧ testedValue run s.prog < (limitsNow s run c).stop then
        enterTracking .cutting (limitsPosted run (limitsNow s run c) s)
      else limitsPosted run (limitsNow s run c) s := by
  have hreached : stopReached (limitsTaken s.cfg s.prog run (limitsNow s run c)) s.prog = false ↔
      testedValue run s.prog < (limitsNow s run c).stop := by
    rw [limitsTaken_eq, stopReached, decide_eq_false_iff_not, Int.not_le]
    rfl
  simp only [← hreached, recomputeLimits, hrun, hc]
  rfl

section
variable (run : Run) (lim : Limits) (s : State)

theorem limitsPosted_run : (limitsPosted run lim s).run = some (limitsTaken s.cfg s.prog run lim) := by
  unfold limitsPosted postCatchNeeded
  split <;> rfl

theorem limitsPosted_settle : (limitsPosted run lim s).gap.settle = s.gap.settle := by
  obtain ⟨sampling, presence, h⟩ := abandonSample_eq s
  unfold limitsPosted postCatchNeeded
  rw [h]
  split <;> rfl

theorem nothingStands_limitsPosted (h : NothingStands s) : NothingStands (limitsPosted run lim s) := by
  obtain ⟨sampling, presence, ha⟩ := abandonSample_eq s
  refine nothingStands_of_eq h ?_ ?_ ?_ <;>
  · rw [limitsPosted, postCatchNeeded, ha]
    split <;> rfl

theorem limitsPosted_cfg : (limitsPosted run lim s).cfg = s.cfg := by
  simp [limitsPosted]

/-- CATCH_NEEDED stands on the Motion Link and the Cell Link where the holdback flag is newly set (R93). -/
theorem get?_raw_limitsPosted {l : Link} (hl : l = .motion ∨ l = .cell) :
    Table.get? ((limitsPosted run lim s).link l).raw 8 =
      (if lim.holdback = true ∧ run.holdback = false then some (.catchNeeded run.number run.contour lim.held)
        else Table.get? (s.link l).raw 8) := by
  have hr : (routed l).getLsbD 8 = true := by rcases hl with rfl | rfl <;> decide
  have hlink : ({ abandonSample s with run := some (limitsTaken s.cfg s.prog run lim) } : State).link l =
      s.link l := by
    rw [← abandonSample_link s l]
    cases l <;> rfl
  unfold limitsPosted postCatchNeeded
  by_cases hnew : lim.holdback = true ∧ run.holdback = false
  · rw [if_pos (by simp [hnew]), if_pos hnew]
    exact get?_raw_post_same (.catchNeeded ..) _ hr (by simp [Event.bit])
  · rw [if_neg (by simpa using hnew), if_neg hnew, hlink]

end

/-- A recomputation takes the limits (R68, R93). -/
theorem limitsTaken_recomputeLimits {s : State} {run : Run} {c : Contour} (hrun : s.run = some run)
    (hc : s.contour? run.contour = some c) :
    LimitsTaken run (limitsNow s run c) s (recomputeLimits s) := by
  generalize hlim : limitsNow s run c = lim
  have hposted := limitsPosted_run run lim s
  have htaken := limitsTaken_eq s.cfg s.prog run lim
  rw [recomputeLimits_eq hrun hc, hlim]
  by_cases hgo : run.phase = .atLimit ∧ testedValue run s.prog < lim.stop
  · rw [if_pos hgo]
    obtain ⟨phase, halt, hentered⟩ := enterTracking_run .cutting hposted
    refine ⟨_, hentered, by rw [htaken], by rw [htaken], by rw [htaken], by rw [htaken], by rw [htaken],
      by rw [htaken], by rw [htaken], fun hp hlt hn => ?goesOn, fun hstays => ?stays, fun l hl => ?catchNeeded⟩
    case goesOn =>
      have hn' := nothingStands_limitsPosted run lim s hn
      have hsame := (enterTracking_run_of_nothing .cutting hn' hposted).symm.trans hentered
      have hhalt : (limitsTaken s.cfg s.prog run lim).halt = run.halt := by rw [htaken]; simp [hp]
      have hnumber : (limitsTaken s.cfg s.prog run lim).number = run.number := by rw [htaken]
      rw [← Option.some.inj hsame, ← hnumber]
      refine ⟨rfl, hhalt, ?_, fun l hl => get?_raw_enterTracking_phase .cutting hn' hposted hl⟩
      rw [enterTracking_settle_cutting hn', limitsPosted_cfg, limitsPosted_settle, settledOnResume]
    case stays => exact absurd hgo (by rw [not_and, Int.not_lt]; tauto)
    case catchNeeded => rw [get?_raw_enterTracking _ hposted _ (by decide) (by decide), get?_raw_limitsPosted _ _ _ hl]
  · rw [if_neg hgo]
    refine ⟨_, hposted, by rw [htaken], by rw [htaken], by rw [htaken], by rw [htaken], by rw [htaken],
      by rw [htaken], by rw [htaken], fun hp hlt => absurd ⟨hp, hlt⟩ hgo, fun _ => by rw [htaken]; exact ⟨rfl, rfl⟩,
      fun l hl => get?_raw_limitsPosted _ _ _ hl⟩

/-! ### Intervals and their least members (R82, R85) -/

/-- A list of intervals within [0, n), none of them empty. -/
def Proper (n : Nat) (spans : List Span) : Prop := ∀ p ∈ spans, p.lo < p.hi ∧ p.hi ≤ n

theorem inSpans_nil (x : Nat) : inSpans x [] = false := rfl

theorem inSpans_cons (x : Nat) (p : Span) (rest : List Span) :
    inSpans x (p :: rest) = true ↔ (p.lo ≤ x ∧ x < p.hi) ∨ inSpans x rest = true := by
  simp [inSpans]

theorem inSpans_append (x : Nat) (ps qs : List Span) :
    inSpans x (ps ++ qs) = true ↔ inSpans x ps = true ∨ inSpans x qs = true := by
  simp [inSpans]

theorem inSpans_iff (x : Nat) (spans : List Span) : inSpans x spans = true ↔ ∃ p ∈ spans, p.lo ≤ x ∧ x < p.hi := by
  simp [inSpans]

/-- The members of some intervals from s0 up. -/
def membersFrom (s0 : Nat) (spans : List Span) : Set Nat := { q | s0 ≤ q ∧ inSpans q spans = true }

/-- The search of R88 to R92 finds nothing where nothing is, and else the least. -/
theorem leastFrom_spec (s0 : Nat) {n : Nat} {spans : List Span} (hp : Proper n spans) :
    (leastFrom s0 spans = none → ∀ q, q ∉ membersFrom s0 spans) ∧
    (∀ x, leastFrom s0 spans = some x → IsLeast (membersFrom s0 spans) x) := by
  induction spans with
  | nil => simp [leastFrom, membersFrom, inSpans_nil]
  | cons p rest ih =>
    obtain ⟨ihnone, ihsome⟩ := ih fun r hr => hp r (List.mem_cons_of_mem _ hr)
    have hpp := hp p List.mem_cons_self
    have hmem (q : Nat) : q ∈ membersFrom s0 (p :: rest) ↔
        (s0 ≤ q ∧ p.lo ≤ q ∧ q < p.hi) ∨ q ∈ membersFrom s0 rest := by
      simp only [membersFrom, Set.mem_ofPred_eq, inSpans_cons]
      tauto
    simp only [leastFrom]
    by_cases hs : s0 < p.hi
    · rw [if_pos hs]
      cases hr : leastFrom s0 rest with
      | none =>
        refine ⟨by simp, fun x hx => ?_⟩
        obtain rfl : max s0 p.lo = x := Option.some.inj hx
        refine ⟨(hmem _).mpr (.inl (by omega)), fun q hq => ?_⟩
        obtain hq | hq := (hmem q).mp hq
        · omega
        · exact absurd hq (ihnone hr q)
      | some y =>
        have hy := ihsome y hr
        refine ⟨by simp, fun x hx => ?_⟩
        obtain rfl : min (max s0 p.lo) y = x := Option.some.inj hx
        refine ⟨(hmem _).mpr ?_, fun q hq => ?_⟩
        · rcases min_choice (max s0 p.lo) y with h | h
          · rw [h]; exact .inl (by omega)
          · rw [h]; exact .inr hy.1
        · obtain hq | hq := (hmem q).mp hq
          · omega
          · exact (min_le_right _ _).trans (hy.2 hq)
    · rw [if_neg hs]
      have hrest (q : Nat) : q ∈ membersFrom s0 (p :: rest) ↔ q ∈ membersFrom s0 rest :=
        (hmem q).trans (or_iff_right (by omega))
      have hset : membersFrom s0 (p :: rest) = membersFrom s0 rest := Set.ext hrest
      rw [hset]
      cases hr : leastFrom s0 rest with
      | none => exact ⟨fun _ => ihnone hr, by simp⟩
      | some y => exact ⟨by simp, fun x hx => ihsome x (hr.trans hx)⟩

/-- The least member from s0 up, or n where there is none. -/
theorem leastFrom_getD {s0 n : Nat} {spans : List Span} (hp : Proper n spans) (hs : s0 ≤ n) :
    let x := (leastFrom s0 spans).getD n
    s0 ≤ x ∧ x ≤ n ∧ (∀ q, s0 ≤ q → q < x → ¬ inSpans q spans = true) ∧ (x < n → inSpans x spans = true) := by
  obtain ⟨hnone, hsome⟩ := leastFrom_spec s0 hp
  cases h : leastFrom s0 spans with
  | none => exact ⟨hs, le_rfl, fun q hq _ hin => hnone h q ⟨hq, hin⟩, fun hlt => absurd hlt (lt_irrefl n)⟩
  | some x =>
    obtain ⟨⟨hfrom, hin⟩, hleast⟩ := hsome x h
    obtain ⟨p, hmem, hlo, hhi⟩ := (inSpans_iff x spans).mp hin
    have hpn := (hp p hmem).2
    exact ⟨hfrom, by simp; omega, fun q hq hlt hq' => absurd (hleast ⟨hq, hq'⟩) (Nat.not_le.mpr hlt), fun _ => hin⟩

/-! ### Covered and uncovered intervals (R83, R85) -/

theorem proper_of_coverageWf {n low : Nat} {cov : List Span} (h : coverageWf n low cov = true) : Proper n cov := by
  induction cov generalizing low with
  | nil => simp [Proper]
  | cons p rest ih =>
    simp only [coverageWf, Bool.and_eq_true, decide_eq_true_eq] at h
    obtain ⟨⟨⟨-, hlt⟩, hle⟩, hrest⟩ := h
    intro r hr
    obtain rfl | hr := List.mem_cons.mp hr
    · exact ⟨hlt, hle⟩
    · exact ih hrest r hr

/-- A coverage list lies at or above its bound. -/
theorem le_of_inSpans {n low x : Nat} {cov : List Span} (h : coverageWf n low cov = true)
    (hx : inSpans x cov = true) : low ≤ x := by
  induction cov generalizing low with
  | nil => simp [inSpans_nil] at hx
  | cons p rest ih =>
    simp only [coverageWf, Bool.and_eq_true, decide_eq_true_eq] at h
    obtain ⟨⟨⟨hlow, hlt⟩, -⟩, hrest⟩ := h
    obtain hx | hx := (inSpans_cons ..).mp hx
    · omega
    · have := ih hrest hx
      omega

/-- The gaps from x on hold exactly the places from x on that are not covered. -/
theorem inSpans_gapsFrom {n low x y : Nat} {cov : List Span} (h : coverageWf n low cov = true) (hx : x ≤ low) :
    inSpans y (gapsFrom n x cov) = true ↔ x ≤ y ∧ y < n ∧ ¬ inSpans y cov = true := by
  induction cov generalizing low x with
  | nil =>
    simp only [gapsFrom]
    split
    · simp [inSpans_nil, inSpans_cons]
    · simp only [inSpans_nil, Bool.false_eq_true, false_iff]
      omega
  | cons p rest ih =>
    simp only [coverageWf, Bool.and_eq_true, decide_eq_true_eq] at h
    obtain ⟨⟨⟨hlow, hlt⟩, hle⟩, hrest⟩ := h
    have hhead : inSpans y (if x < p.lo then [⟨x, p.lo⟩] else []) = true ↔ x ≤ y ∧ y < p.lo := by
      split
      · simp [inSpans_nil, inSpans_cons]
      · simp only [inSpans_nil, Bool.false_eq_true, false_iff]
        omega
    have habove : inSpans y rest = true → p.hi + 1 ≤ y := le_of_inSpans hrest
    rw [gapsFrom, inSpans_append, hhead, ih hrest (Nat.le_succ _), inSpans_cons]
    constructor
    · rintro (⟨hxy, hy⟩ | ⟨hy, hn, hnot⟩)
      · exact ⟨hxy, by omega, fun h => h.elim (by omega) fun h => by have := habove h; omega⟩
      · exact ⟨by omega, hn, fun h => h.elim (by omega) hnot⟩
    · rintro ⟨hxy, hn, hnot⟩
      rw [not_or] at hnot
      by_cases hy : y < p.lo
      · exact .inl ⟨hxy, hy⟩
      · exact .inr ⟨by omega, hn, hnot.2⟩

theorem proper_gapsFrom {n low x : Nat} {cov : List Span} (h : coverageWf n low cov = true) :
    Proper n (gapsFrom n x cov) := by
  induction cov generalizing low x with
  | nil =>
    simp only [gapsFrom]
    split <;> simp_all [Proper]
  | cons p rest ih =>
    simp only [coverageWf, Bool.and_eq_true, decide_eq_true_eq] at h
    obtain ⟨⟨⟨-, hlt⟩, hle⟩, hrest⟩ := h
    intro r hr
    rw [gapsFrom, List.mem_append] at hr
    obtain hr | hr := hr
    · split at hr
      · obtain rfl := List.mem_singleton.mp hr
        exact ⟨‹_›, by simp; omega⟩
      · simp at hr
    · exact ih hrest r hr

theorem proper_uncoveredSpans {n : Nat} {cov : List Span} (h : coverageWf n 0 cov = true) :
    Proper n (uncoveredSpans n cov) := proper_gapsFrom h

/-- The uncovered intervals hold exactly the places of the loop that are not covered (R85). -/
theorem inSpans_uncoveredSpans {n y : Nat} {cov : List Span} (h : coverageWf n 0 cov = true) (hy : y < n) :
    inSpans y (uncoveredSpans n cov) = true ↔ ¬ inSpans y cov = true := by
  rw [uncoveredSpans, inSpans_gapsFrom h (Nat.le_refl 0)]
  exact ⟨fun h => h.2.2, fun h => ⟨Nat.zero_le y, hy, h⟩⟩

/-! ### Run distances of cells (R47, R82) -/

/-- The cell of a run distance: in reverse a run distance names the cell that ends there (R82). -/
def cellOf (e0 : Nat) (dir : Dir) (n q : Nat) : Nat :=
  match dir with
  | .fwd => loopPos e0 .fwd n q
  | .rev => loopPos e0 .rev n (q + 1)

theorem toNat_emod_lt (x : Int) {n : Nat} (hn : 0 < n) : (x % n).toNat < n := by
  have h0 := Int.emod_nonneg x (b := (n : Int)) (by omega)
  have h1 := Int.emod_lt_of_pos x (b := (n : Int)) (by omega)
  omega

theorem cellOf_lt (e0 : Nat) (dir : Dir) (q : Nat) {n : Nat} (hn : 0 < n) : cellOf e0 dir n q < n := by
  cases dir with
  | fwd => exact toNat_emod_lt ((e0 : Int) + q) hn
  | rev => exact toNat_emod_lt ((e0 : Int) - (q + 1)) hn

theorem runDist_lt (e0 : Nat) (dir : Dir) (s : Nat) {n : Nat} (hn : 0 < n) : runDist e0 dir n s < n := by
  cases dir <;> exact toNat_emod_lt _ hn

/-- Two places of the loop are the same exactly when their numbers are congruent. -/
theorem toNat_emod_eq_iff (x y : Int) {n : Nat} (hn : 0 < n) :
    (x % n).toNat = (y % n).toNat ↔ x ≡ y [ZMOD n] := by
  have hx := Int.emod_nonneg x (b := (n : Int)) (by omega)
  have hy := Int.emod_nonneg y (b := (n : Int)) (by omega)
  rw [Int.ModEq]
  omega

theorem mod_eq_toNat_emod (m n : Nat) : m % n = ((m : Int) % n).toNat := by
  rw [← Int.natCast_mod, Int.toNat_natCast]

/-- The cells of a stretch as intervals from its first place on. -/
theorem inSpans_pieces {n d len q : Nat} (hd : d < n) (hlen : len ≤ n) (hq : q < n) :
    inSpans q (Stretch.pieces n ⟨d, len⟩) = true ↔ ∃ k, k < len ∧ q = (d + k) % n := by
  have hone (k : Nat) (hk : d + k < n) : (d + k) % n = d + k := Nat.mod_eq_of_lt hk
  have htwo (k : Nat) (hk : n ≤ d + k) (hkn : k < n) : (d + k) % n = d + k - n := by
    rw [Nat.mod_eq_sub_mod hk, Nat.mod_eq_of_lt (by omega)]
  simp only [Stretch.pieces]
  split
  · simp only [inSpans_cons, inSpans_nil, Bool.false_eq_true, or_false]
    constructor
    · rintro ⟨hlo, hhi⟩
      exact ⟨q - d, by omega, by rw [hone _ (by omega)]; omega⟩
    · rintro ⟨k, hk, rfl⟩
      rw [hone k (by omega)]
      omega
  · simp only [inSpans_cons, inSpans_nil, Bool.false_eq_true, or_false]
    constructor
    · rintro (⟨hlo, -⟩ | ⟨-, hhi⟩)
      · exact ⟨q - d, by omega, by rw [hone _ (by omega)]; omega⟩
      · exact ⟨q + n - d, by omega, by rw [htwo _ (by omega) (by omega)]; omega⟩
    · rintro ⟨k, hk, rfl⟩
      by_cases hwrap : d + k < n
      · rw [hone k hwrap]
        omega
      · rw [htwo k (by omega) (by omega)]
        omega

theorem proper_pieces {n d len : Nat} (hd : d < n) (h0 : 0 < len) (hlen : len ≤ n) :
    Proper n (Stretch.pieces n ⟨d, len⟩) := by
  simp only [Stretch.pieces]
  split <;> simp [Proper] <;> omega

/-- A run distance from the first cell of a stretch on, forward: k cells further. -/
theorem eq_runDist_add_iff_fwd (e0 first k : Nat) {n q : Nat} (hn : 0 < n) (hq : q < n) :
    q = (runDist e0 .fwd n first + k) % n ↔ cellOf e0 .fwd n q = (first + k) % n := by
  have hd : (runDist e0 .fwd n first : Int) ≡ first - e0 [ZMOD n] := by
    rw [runDist, Int.toNat_of_nonneg (Int.emod_nonneg _ (by omega))]
    exact Int.mod_modEq _ _
  have hcell : cellOf e0 .fwd n q = (((e0 : Int) + q) % n).toNat := rfl
  have hself : q = ((q : Int) % n).toNat := by rw [← mod_eq_toNat_emod, Nat.mod_eq_of_lt hq]
  rw [hcell, mod_eq_toNat_emod, mod_eq_toNat_emod, toNat_emod_eq_iff _ _ hn]
  nth_rw 1 [hself]
  rw [toNat_emod_eq_iff _ _ hn]
  push_cast
  constructor
  · intro h
    have := (h.trans (hd.add_right k)).add_left e0
    rwa [show (e0 : Int) + (first - e0 + k) = first + k by ring] at this
  · intro h
    refine Int.ModEq.trans ?_ (hd.add_right k).symm
    have := h.sub_right e0
    rwa [show (e0 : Int) + q - e0 = q by ring, show (first : Int) + k - e0 = first - e0 + k by ring] at this

/-- A run distance from the end of a stretch on, in reverse: k cells back from the last. -/
theorem eq_runDist_add_iff_rev (e0 first : Nat) {n q k len : Nat} (hn : 0 < n) (hq : q < n) (hk : k < len) :
    q = (runDist e0 .rev n (first + len) + k) % n ↔ cellOf e0 .rev n q = (first + (len - 1 - k)) % n := by
  have hd : (runDist e0 .rev n (first + len) : Int) ≡ e0 - (first + len) [ZMOD n] := by
    rw [runDist, Int.toNat_of_nonneg (Int.emod_nonneg _ (by omega))]
    push_cast
    exact Int.mod_modEq _ _
  have hcell : cellOf e0 .rev n q = (((e0 : Int) - (q + 1)) % n).toNat := rfl
  have hself : q = ((q : Int) % n).toNat := by rw [← mod_eq_toNat_emod, Nat.mod_eq_of_lt hq]
  have hj : ((first + (len - 1 - k) : Nat) : Int) = first + len - k - 1 := by omega
  rw [hcell, mod_eq_toNat_emod, mod_eq_toNat_emod, toNat_emod_eq_iff _ _ hn, hj]
  nth_rw 1 [hself]
  rw [toNat_emod_eq_iff _ _ hn]
  push_cast
  constructor
  · intro h
    have := (h.trans (hd.add_right k)).sub_left (e0 - 1)
    rwa [show (e0 : Int) - 1 - q = e0 - (q + 1) by ring,
      show (e0 : Int) - 1 - (e0 - (first + len) + k) = first + len - k - 1 by ring] at this
  · intro h
    refine Int.ModEq.trans ?_ (hd.add_right k).symm
    have := h.sub_left (e0 - 1)
    rwa [show (e0 : Int) - 1 - (e0 - (q + 1)) = q by ring,
      show (e0 : Int) - 1 - (first + len - k - 1) = e0 - (first + len) + k by ring] at this

/-- A cell lies in one of some stretches. -/
def InStretches (n x : Nat) (ts : List Stretch) : Prop := ∃ t ∈ ts, ∃ j, j < t.len ∧ x = (t.first + j) % n

theorem inSpans_runPieces_one (e0 : Nat) (dir : Dir) {n q : Nat} {t : Stretch} (hn : 0 < n) (hq : q < n)
    (hlen : t.len ≤ n) :
    inSpans q (t.runPieces e0 dir n) = true ↔ ∃ j, j < t.len ∧ cellOf e0 dir n q = (t.first + j) % n := by
  cases dir with
  | fwd =>
    rw [Stretch.runPieces, inSpans_pieces (runDist_lt _ _ _ hn) hlen hq]
    simp only [eq_runDist_add_iff_fwd e0 t.first _ hn hq]
  | rev =>
    rw [Stretch.runPieces, inSpans_pieces (runDist_lt _ _ _ hn) hlen hq]
    constructor
    · rintro ⟨k, hk, h⟩
      exact ⟨t.len - 1 - k, by omega, (eq_runDist_add_iff_rev e0 t.first hn hq hk).mp h⟩
    · rintro ⟨j, hj, h⟩
      have hk : t.len - 1 - j < t.len := by omega
      refine ⟨t.len - 1 - j, hk, (eq_runDist_add_iff_rev e0 t.first hn hq hk).mpr ?_⟩
      rwa [show t.len - 1 - (t.len - 1 - j) = j by omega]

/-- The run distances of some stretches are those whose cells lie in them (R82). -/
theorem inSpans_runPieces (e0 : Nat) (dir : Dir) {n q : Nat} {ts : List Stretch} (hn : 0 < n) (hq : q < n)
    (hlen : ∀ t ∈ ts, t.len ≤ n) :
    inSpans q (runPieces e0 dir n ts) = true ↔ InStretches n (cellOf e0 dir n q) ts := by
  rw [runPieces, InStretches, inSpans_iff]
  simp only [List.mem_flatMap]
  constructor
  · rintro ⟨p, ⟨t, ht, hp⟩, hin⟩
    exact ⟨t, ht, (inSpans_runPieces_one e0 dir hn hq (hlen t ht)).mp ((inSpans_iff ..).mpr ⟨p, hp, hin⟩)⟩
  · rintro ⟨t, ht, hcell⟩
    obtain ⟨p, hp, hin⟩ := (inSpans_iff ..).mp ((inSpans_runPieces_one e0 dir hn hq (hlen t ht)).mpr hcell)
    exact ⟨p, ⟨t, ht, hp⟩, hin⟩

theorem proper_runPieces (e0 : Nat) (dir : Dir) {n : Nat} {ts : List Stretch} (hn : 0 < n)
    (hts : ∀ t ∈ ts, 0 < t.len ∧ t.len ≤ n) : Proper n (runPieces e0 dir n ts) := by
  intro p hp
  obtain ⟨t, ht, hp⟩ := List.mem_flatMap.mp hp
  obtain ⟨h0, hlen⟩ := hts t ht
  cases dir with
  | fwd => exact proper_pieces (runDist_lt _ _ _ hn) h0 hlen p hp
  | rev => exact proper_pieces (runDist_lt _ _ _ hn) h0 hlen p hp

theorem len_of_proper {n : Nat} {spans : List Span} (hp : Proper n spans) :
    ∀ t ∈ spans.map Span.stretch, 0 < t.len ∧ t.len ≤ n := by
  intro t ht
  obtain ⟨p, hmem, rfl⟩ := List.mem_map.mp ht
  have := hp p hmem
  simp only [Span.stretch]
  omega

/-- Intervals within the loop, as stretches, have the same cells. -/
theorem inStretches_map_stretch {n x : Nat} {spans : List Span} (hp : Proper n spans) :
    InStretches n x (spans.map Span.stretch) ↔ inSpans x spans = true := by
  rw [inSpans_iff]
  constructor
  · rintro ⟨t, ht, j, hj, rfl⟩
    obtain ⟨p, hmem, rfl⟩ := List.mem_map.mp ht
    have := hp p hmem
    simp only [Span.stretch] at hj ⊢
    rw [Nat.mod_eq_of_lt (by omega)]
    exact ⟨p, hmem, by omega⟩
  · rintro ⟨p, hmem, hlo, hhi⟩
    have := hp p hmem
    refine ⟨p.stretch, List.mem_map_of_mem hmem, x - p.lo, by simp only [Span.stretch]; omega, ?_⟩
    simp only [Span.stretch]
    rw [Nat.mod_eq_of_lt (by omega)]
    omega

/-- The run distances of intervals of the loop are those whose cells lie in them. -/
theorem inSpans_runPieces_spans (e0 : Nat) (dir : Dir) {n q : Nat} {spans : List Span} (hn : 0 < n) (hq : q < n)
    (hp : Proper n spans) :
    inSpans q (runPieces e0 dir n (spans.map Span.stretch)) = true ↔ inSpans (cellOf e0 dir n q) spans = true := by
  rw [inSpans_runPieces e0 dir hn hq fun t ht => (len_of_proper hp t ht).2, inStretches_map_stretch hp]

/-! ### The limits (R88 to R93) -/

/-- The run distances whose cells are uncovered, as intervals. -/
def openPieces (e0 : Nat) (dir : Dir) (c : Contour) : List Span :=
  runPieces e0 dir c.g.loopLen ((uncoveredSpans c.g.loopLen c.lv.coverage).map Span.stretch)

/-- The run distances whose cells lie in a protected tab, as intervals. -/
def tabPieces (e0 : Nat) (dir : Dir) (c : Contour) : List Span := runPieces e0 dir c.g.loopLen c.protectedTabs

/-- The run distances that stop a run of a kind, as intervals (R90, R91). -/
def barriers (kind : RunKind) (e0 : Nat) (dir : Dir) (c : Contour) : List Span :=
  let cut := runPieces e0 dir c.g.loopLen (c.lv.coverage.map Span.stretch)
  if kind = .first then cut ++ tabPieces e0 dir c else cut

/-- The limit of a FIRST or RELEASE run from the search start (R90, R91). -/
def limitFrom (kind : RunKind) (e0 : Nat) (dir : Dir) (c : Contour) (s0 : Nat) : Nat :=
  (leastFrom s0 (barriers kind e0 dir c)).getD c.g.loopLen

theorem cutFrom_of_not_skim {kind : RunKind} (h : kind ≠ .skim) (e0 : Nat) (dir : Dir) (c : Contour) :
    cutFrom kind e0 dir c = (leastFrom 0 (openPieces e0 dir c)).getD c.g.loopLen := by
  cases kind with
  | skim => exact absurd rfl h
  | first => rfl
  | release => rfl

/-- Every uncovered run distance lies between the search start and the limit (R93). -/
def onLastStretch (e0 : Nat) (dir : Dir) (c : Contour) (s0 limit : Nat) : Bool :=
  (openPieces e0 dir c).all (fun p => decide (s0 ≤ p.lo) && decide (p.hi ≤ limit))

/-- The stop point of a limit: permit_lead before a tab edge, and the limit itself elsewhere (R90, R91). -/
def stopOf (kind : RunKind) (e0 : Nat) (dir : Dir) (c : Contour) (lead limit : Nat) : Int :=
  if kind = .first ∧ limit < c.g.loopLen ∧
    inSpans limit (tabPieces e0 dir c) = true then (limit : Int) - lead else limit

theorem computeLimits_of_not_skim {kind : RunKind} (h : kind ≠ .skim) (e0 : Nat) (dir : Dir) (c : Contour)
    (armed : Bool) (lead s0 : Nat) :
    computeLimits kind e0 dir c armed lead s0 =
      let limit := limitFrom kind e0 dir c s0
      let stop := stopOf kind e0 dir c lead limit
      let short := max s0 (limit - c.width)
      if !onLastStretch e0 dir c s0 limit then
        ⟨limit, stop, false, false, 0⟩
      else if armed then ⟨limit, stop, true, false, 0⟩
      else ⟨short, (short : Int) - lead, false, true, limit - short⟩ := by
  have hstop (limit : Nat) : stopOf kind e0 dir c lead limit =
      if decide (kind = .first) && decide (limit < c.g.loopLen) && inSpans limit (tabPieces e0 dir c) then
        (limit : Int) - lead else limit := by
    simp only [stopOf, Bool.and_eq_true, decide_eq_true_eq, and_assoc]
  dsimp only
  rw [hstop]
  cases kind with
  | skim => exact absurd rfl h
  | first => rfl
  | release => rfl

theorem inSpans_tabPieces (e0 : Nat) (dir : Dir) {c : Contour} (hlc : 0 < c.g.loopLen)
    (htabs : ∀ tab ∈ c.protectedTabs, tab.first < c.g.loopLen ∧ 0 < tab.len ∧ tab.len ≤ c.g.loopLen) {q : Nat}
    (hq : q < c.g.loopLen) :
    inSpans q (tabPieces e0 dir c) = true ↔
      InStretches c.g.loopLen (cellOf e0 dir c.g.loopLen q) c.protectedTabs :=
  inSpans_runPieces e0 dir hlc hq fun t ht => (htabs t ht).2.2

section
variable (e0 : Nat) (dir : Dir) {c : Contour} (hwf : coverageWf c.g.loopLen 0 c.lv.coverage = true)
  (hlc : 0 < c.g.loopLen)
include hwf hlc

theorem proper_openPieces : Proper c.g.loopLen (openPieces e0 dir c) :=
  proper_runPieces e0 dir hlc (len_of_proper (proper_uncoveredSpans hwf))

/-- The cell of a run distance is uncovered exactly where one of the open intervals holds it. -/
theorem inSpans_openPieces {q : Nat} (hq : q < c.g.loopLen) :
    inSpans q (openPieces e0 dir c) = true ↔ ¬ inSpans (cellOf e0 dir c.g.loopLen q) c.lv.coverage = true := by
  rw [openPieces, inSpans_runPieces_spans e0 dir hlc hq (proper_uncoveredSpans hwf),
    inSpans_uncoveredSpans hwf (cellOf_lt e0 dir q hlc)]

/-- The least run distance whose cell is uncovered, or the loop's length where there is none (R88, R92). -/
theorem leastOpen_spec :
    let x := (leastFrom 0 (openPieces e0 dir c)).getD c.g.loopLen
    x ≤ c.g.loopLen ∧ (∀ q, q < x → inSpans (cellOf e0 dir c.g.loopLen q) c.lv.coverage = true) ∧
      (x < c.g.loopLen → ¬ inSpans (cellOf e0 dir c.g.loopLen x) c.lv.coverage = true) := by
  obtain ⟨-, hle, hbelow, hat⟩ := leastFrom_getD (proper_openPieces e0 dir hwf hlc) (Nat.zero_le _)
  refine ⟨hle, fun q hq => ?_, fun hx => (inSpans_openPieces e0 dir hwf hlc hx).mp (hat hx)⟩
  exact not_not.mp (mt (inSpans_openPieces e0 dir hwf hlc (by omega)).mpr (hbelow q (Nat.zero_le q) hq))

variable (htabs : ∀ tab ∈ c.protectedTabs, tab.first < c.g.loopLen ∧ 0 < tab.len ∧ tab.len ≤ c.g.loopLen)
include htabs

theorem proper_barriers (kind : RunKind) : Proper c.g.loopLen (barriers kind e0 dir c) := by
  have hcut := proper_runPieces e0 dir hlc (len_of_proper (proper_of_coverageWf hwf))
  unfold barriers
  dsimp only
  split
  · intro p hp
    obtain hp | hp := List.mem_append.mp hp
    · exact hcut p hp
    · exact proper_runPieces e0 dir hlc (fun t ht => (htabs t ht).2) p hp
  · exact hcut

/-- A run distance stops a run where its cell is covered, and a FIRST run in a protected tab too (R90, R91). -/
theorem inSpans_barriers (kind : RunKind) {q : Nat} (hq : q < c.g.loopLen) :
    inSpans q (barriers kind e0 dir c) = true ↔
      inSpans (cellOf e0 dir c.g.loopLen q) c.lv.coverage = true ∨
        (kind = .first ∧ InStretches c.g.loopLen (cellOf e0 dir c.g.loopLen q) c.protectedTabs) := by
  have hcut := inSpans_runPieces_spans e0 dir hlc hq (proper_of_coverageWf hwf)
  unfold barriers
  dsimp only
  split
  · rename_i hk
    rw [inSpans_append, hcut, inSpans_tabPieces e0 dir hlc htabs hq]
    simp [hk]
  · rename_i hk
    rw [hcut]
    simp [hk]

/-- The limit is the least run distance from the search start that stops the run, or the loop's length (R90, R91). -/
theorem limitFrom_spec (kind : RunKind) {s0 : Nat} (hs : s0 ≤ c.g.loopLen) :
    let x := limitFrom kind e0 dir c s0
    let stops (q : Nat) : Prop := inSpans (cellOf e0 dir c.g.loopLen q) c.lv.coverage = true ∨
      (kind = .first ∧ InStretches c.g.loopLen (cellOf e0 dir c.g.loopLen q) c.protectedTabs)
    s0 ≤ x ∧ x ≤ c.g.loopLen ∧ (∀ q, s0 ≤ q → q < x → ¬ stops q) ∧ (x < c.g.loopLen → stops x) := by
  obtain ⟨hfrom, hle, hbelow, hat⟩ := leastFrom_getD (proper_barriers e0 dir hwf hlc htabs kind) hs
  exact ⟨hfrom, hle,
    fun q hq hlt => mt (inSpans_barriers e0 dir hwf hlc htabs kind (hlt.trans_le hle)).mpr (hbelow q hq hlt),
    fun hx => (inSpans_barriers e0 dir hwf hlc htabs kind hx).mp (hat hx)⟩

omit htabs in
/-- Every open interval lies between the search start and the limit exactly where every uncovered cell does (R93). -/
theorem onLastStretch_iff (s0 limit : Nat) :
    onLastStretch e0 dir c s0 limit = true ↔
      ∀ q, q < c.g.loopLen → ¬ inSpans (cellOf e0 dir c.g.loopLen q) c.lv.coverage = true → s0 ≤ q ∧ q < limit := by
  simp only [onLastStretch, List.all_eq_true, Bool.and_eq_true, decide_eq_true_eq]
  constructor
  · intro hall q hq hopen
    obtain ⟨p, hp, hlo, hhi⟩ := (inSpans_iff ..).mp ((inSpans_openPieces e0 dir hwf hlc hq).mpr hopen)
    have := hall p hp
    omega
  · intro hcells p hp
    obtain ⟨hlt, hle⟩ := proper_openPieces e0 dir hwf hlc p hp
    have hcell (q : Nat) (hlo : p.lo ≤ q) (hhi : q < p.hi) : s0 ≤ q ∧ q < limit :=
      hcells q (by omega) ((inSpans_openPieces e0 dir hwf hlc (by omega)).mp ((inSpans_iff ..).mpr ⟨p, hp, hlo, hhi⟩))
    have hfirst := hcell p.lo (Nat.le_refl _) hlt
    have hlast := hcell (p.hi - 1) (by omega) (by omega)
    omega

omit hwf in
theorem stopOf_of_tab {kind : RunKind} {limit : Nat} (lead : Nat) (h : kind = .first ∧ limit < c.g.loopLen ∧
    InStretches c.g.loopLen (cellOf e0 dir c.g.loopLen limit) c.protectedTabs) :
    stopOf kind e0 dir c lead limit = (limit : Int) - lead := by
  obtain ⟨hk, hlt, htab⟩ := h
  exact if_pos ⟨hk, hlt, (inSpans_tabPieces e0 dir hlc htabs hlt).mpr htab⟩

omit hwf in
theorem stopOf_of_no_tab {kind : RunKind} {limit : Nat} (lead : Nat) (h : ¬ (kind = .first ∧ limit < c.g.loopLen ∧
    InStretches c.g.loopLen (cellOf e0 dir c.g.loopLen limit) c.protectedTabs)) :
    stopOf kind e0 dir c lead limit = limit :=
  if_neg fun ⟨hk, hlt, htab⟩ => h ⟨hk, hlt, (inSpans_tabPieces e0 dir hlc htabs hlt).mp htab⟩

end

section
variable {kind : RunKind} (hk : kind ≠ .skim) (e0 : Nat) (dir : Dir) (c : Contour) (lead s0 : Nat)
include hk

/-- The three results of R90 to R93: off the final stretch, on it under a catch, and held back. -/
theorem computeLimits_cases (armed : Bool) :
    let limit := limitFrom kind e0 dir c s0
    let last := onLastStretch e0 dir c s0 limit
    let short := max s0 (limit - c.width)
    (¬ last = true →
      computeLimits kind e0 dir c armed lead s0 = ⟨limit, stopOf kind e0 dir c lead limit, false, false, 0⟩) ∧
    (last = true → armed = true →
      computeLimits kind e0 dir c armed lead s0 = ⟨limit, stopOf kind e0 dir c lead limit, true, false, 0⟩) ∧
    (last = true → armed = false →
      computeLimits kind e0 dir c armed lead s0 = ⟨short, (short : Int) - lead, false, true, limit - short⟩) := by
  intro limit last short
  rw [computeLimits_of_not_skim hk]
  have hnot (h : last = true) : ¬ (!last) = true := by simp [h]
  exact ⟨fun h => if_pos (by simpa using h), fun h ha => (if_neg (hnot h)).trans (if_pos ha),
    fun h ha => (if_neg (hnot h)).trans (if_neg (by simp [ha]))⟩

end

/-- Settles O60: every search of the computation is for the least member of intervals that hold exactly the cells in
question; a recomputation is the entry to CUTTING or leaves the phase. -/
theorem limitsAreLeastRunDistances : Obligations.LimitsAreLeastRunDistances := by
  unfold Obligations.LimitsAreLeastRunDistances
  refine ⟨fun e0 dir c lead s0 armed => ?limits, fun s run c hrun hc => limitsTaken_recomputeLimits hrun hc⟩
  intro lc cell covered inTab hwf hlc hs htabs
  refine ⟨fun kind hk => ?cutFrom, rfl, fun kind hk => ?tracked, ?skim⟩
  case cutFrom =>
    rw [cutFrom_of_not_skim hk]
    exact leastOpen_spec e0 dir hwf hlc
  case tracked =>
    intro stops
    obtain ⟨hfrom, hle, hbelow, hat⟩ := limitFrom_spec e0 dir hwf hlc htabs kind hs
    obtain ⟨hopen, hcatch, hheld⟩ := computeLimits_cases hk e0 dir c lead s0 armed
    rw [onLastStretch_iff e0 dir hwf hlc] at hopen hcatch hheld
    exact ⟨_, _, hfrom, hle, hbelow, hat, fun h => stopOf_of_tab e0 dir hlc htabs lead h,
      fun h => stopOf_of_no_tab e0 dir hlc htabs lead h, hopen, hcatch, hheld⟩
  case skim =>
    obtain ⟨hle, hbelow, hat⟩ := leastOpen_spec e0 dir hwf hlc
    exact ⟨hle, hbelow, hat, rfl, rfl, rfl⟩

/-! ### A loop sample on the path (R48, R52, R54, R55) -/

/-- The run distance that an on-path loop sample reaches (R48, R52). -/
def sampledDist (run : Run) (c : Contour) (s : State) : Int :=
  let new := reachedPos c (walk c.legs true s.cfg.pathTol s.pos 4 s.prog.seg)
  let delta := normDelta c.g.loopLen ((new : Int) - (s.prog.sOld.getD new : Nat))
  addDist s.prog.r (if run.dir = .fwd then delta else -delta)

/-- The frontier step keeps the run distance, and presents no TRACK_LOSS while the dry excess stays within its limit
(R54, R55). -/
theorem frontierStep_spec (dryLimit loopLen : Nat) (presence : Bool) (p : Progress) :
    let res := frontierStep dryLimit loopLen presence p
    res.onPath = true ∧ res.entered = false ∧ res.prog.r = p.r ∧
      (p.r ≤ p.a ∨ presence = true ∨ (p.r - p.a).toNat ≤ dryLimit → res.lossy = false) := by
  unfold frontierStep
  by_cases hbeyond : (p.a : Int) < p.r
  · rw [if_pos hbeyond]
    cases presence with
    | true =>
      dsimp only
      rw [if_pos rfl]
      split <;> exact ⟨rfl, rfl, rfl, fun _ => rfl⟩
    | false => exact ⟨rfl, rfl, rfl, fun h => decide_eq_false (by simp at h; omega)⟩
  · rw [if_neg hbeyond]
    exact ⟨rfl, rfl, rfl, fun _ => rfl⟩

theorem advanceLoop_r (dir : Dir) (loopLen new : Nat) (p : Progress) :
    (advanceLoop dir loopLen new p).r =
      addDist p.r (if dir = .fwd then normDelta loopLen ((new : Int) - (p.sOld.getD new : Nat))
        else -normDelta loopLen ((new : Int) - (p.sOld.getD new : Nat))) := by
  cases dir <;> rfl

/-- What an on-path loop sample hands on. -/
theorem samplePath_of_loop {s : State} {run : Run} {c : Contour} (presence : Bool) (havail : s.available = true)
    (hpath : s.prog.path = .loop) (hc : s.contour? run.contour = some c)
    (hcap : (walk c.legs true s.cfg.pathTol s.pos 4 s.prog.seg).capped = false)
    (hdev : (walk c.legs true s.cfg.pathTol s.pos 4 s.prog.seg).dev ≤ s.cfg.pathTol) :
    let res := samplePath s run run.phase run.kind presence
    res.onPath = true ∧ res.entered = false ∧ res.prog.r = sampledDist run c s ∧
      ((run.phase.credits && run.kind != .skim) = false ∨ sampledDist run c s ≤ s.prog.a ∨ presence = true ∨
        (sampledDist run c s - s.prog.a).toNat ≤ s.cfg.dryLimit → res.lossy = false) := by
  have hnot : ¬ ((walk c.legs true s.cfg.pathTol s.pos maxSteps s.prog.seg).capped ||
      decide (s.cfg.pathTol < (walk c.legs true s.cfg.pathTol s.pos maxSteps s.prog.seg).dev)) = true := by
    rw [show maxSteps = 4 from rfl, hcap]
    simpa using hdev
  have hsample : samplePath s run run.phase run.kind presence =
      sampleLoop s.cfg c run.dir run.phase run.kind presence s.pos s.prog := by
    simp [samplePath, havail, hpath, hc]
  rw [hsample]
  simp only [sampleLoop]
  rw [if_neg hnot]
  by_cases hcr : (run.phase.credits && run.kind != .skim) = true
  · rw [if_pos hcr]
    obtain ⟨hon, hent, hr, hlossy⟩ := frontierStep_spec s.cfg.dryLimit c.g.loopLen presence
      (advanceLoop run.dir c.g.loopLen (reachedPos c (walk c.legs true s.cfg.pathTol s.pos maxSteps s.prog.seg))
        { s.prog with
          seg := (walk c.legs true s.cfg.pathTol s.pos maxSteps s.prog.seg).seg
          along := (walk c.legs true s.cfg.pathTol s.pos maxSteps s.prog.seg).along
          dev := (walk c.legs true s.cfg.pathTol s.pos maxSteps s.prog.seg).dev })
    rw [advanceLoop_r] at hr hlossy
    exact ⟨hon, hent, hr, fun h => hlossy (h.resolve_left (by simp [hcr]))⟩
  · rw [if_neg hcr]
    exact ⟨rfl, rfl, advanceLoop_r .., fun _ => rfl⟩

/-- A credit writes the map and the links at most, CONTOUR_STATE among the events (R84, R134). -/
theorem mergeCredit_cases (run : Run) (a1 a2 : Nat) (s : State) :
    mergeCredit run a1 a2 s = s ∨
      ∃ f, mergeCredit run a1 a2 s = evaluate run.contour (s.modLive run.contour f) := by
  unfold mergeCredit
  split
  · exact .inl rfl
  · dsimp only
    split
    · exact .inl rfl
    · exact .inr ⟨_, rfl⟩

theorem creditSample_cases (credit : Option (Nat × Nat)) (s : State) :
    creditSample credit s = s ∨ ∃ i f, creditSample credit s = evaluate i (s.modLive i f) := by
  unfold creditSample
  split
  · obtain h | ⟨f, h⟩ := mergeCredit_cases _ _ _ s
    · exact .inl h
    · exact .inr ⟨_, f, h⟩
  · exact .inl rfl

theorem creditSample_eq (credit : Option (Nat × Nat)) (s : State) :
    ∃ p m t c, creditSample credit s = { s with plate := p, motion := m, thread := t, cell := c } := by
  obtain h | ⟨i, f, h⟩ := creditSample_cases credit s
  · exact ⟨s.plate, s.motion, s.thread, s.cell, h⟩
  · obtain ⟨p, m, t, c, he⟩ := evaluate_eq i (s.modLive i f)
    exact ⟨p, m, t, c, h.trans he⟩

theorem get?_raw_creditSample (credit : Option (Nat × Nat)) (s : State) (l : Link) {b : Nat} (h : b ≠ 7) :
    Table.get? ((creditSample credit s).link l).raw b = Table.get? (s.link l).raw b := by
  obtain he | ⟨i, f, he⟩ := creditSample_cases credit s
  · rw [he]
  · rw [he, get?_raw_evaluate _ _ _ h]
    cases l <;> rfl

theorem get?_raw_offerRecord (entry : TraceRecord) (s : State) (l : Link) {b : Nat} (h13 : b ≠ 13) (h14 : b ≠ 14) :
    Table.get? ((offerRecord entry s).link l).raw b = Table.get? (s.link l).raw b := by
  simp only [offerRecord]
  split
  · split
    · rw [get?_raw_post_other _ _ _ (by simpa [Event.bit] using h13)]
      cases l <;> rfl
    · cases l <;> rfl
  · rw [get?_raw_post_other _ _ _ (by simpa [Event.bit] using h14)]
    cases l <;> rfl

/-- The trace part of a sample posts TRACE_LEVEL and TRACE_OVERFLOW at most (R166). -/
theorem get?_raw_traceSample (p : Phase) (s : State) (l : Link) {b : Nat} (h13 : b ≠ 13) (h14 : b ≠ 14) :
    Table.get? ((traceSample p s).link l).raw b = Table.get? (s.link l).raw b := by
  simp only [traceSample]
  split
  · rfl
  · split
    · rw [get?_raw_offerRecord _ _ _ h13 h14]
      cases l <;> rfl
    · cases l <;> rfl

/-! ### What the Run Controller makes of it (R64 to R71) -/

/-- WARN is asserted at a sample (R70). -/
def warnAsserts (cfg : ConfigRecord) (prog : Progress) (run : Run) : Bool :=
  decide (run.phase = .cutting) && !run.warn && decide (remaining run prog ≤ cfg.warnDist)

/-- The warn indicator is cleared at a sample (R71). -/
def warnClears (cfg : ConfigRecord) (prog : Progress) (run : Run) : Bool :=
  decide (run.phase = .cutting) && run.warn && decide (cfg.warnMode = .level) &&
    decide (((cfg.warnDist + cfg.warnHyst : Nat) : Int) < remaining run prog)

/-- The run record with its warn indicator after a sample. -/
def warnedRun (cfg : ConfigRecord) (prog : Progress) (run : Run) : Run :=
  { run with warn := (run.warn || warnAsserts cfg prog run) && !warnClears cfg prog run }

/-- The phase after an on-path loop sample (R66, R67). -/
def phaseAfter (cfg : ConfigRecord) (prog : Progress) (run : Run) : Phase :=
  if run.phase = .approach ∧ prog.r < (run.c : Int) - cfg.resumeTol then .approach
  else if run.phase = .atLimit ∨ run.stop ≤ testedValue run prog then .atLimit
  else .cutting

/-- What the tests of a sample do: the run record, WARN, AT_LIMIT, RUN_PHASE, and the settle window. -/
def SampleTested (run u : Run) (warns : Bool) (s t : State) : Prop :=
  t.run = some u ∧ t.prog = s.prog ∧
  Table.get? t.motion.raw 1 =
    (if warns then some (.warn run.number (remaining run s.prog)) else Table.get? s.motion.raw 1) ∧
  (∀ l, l = .motion ∨ l = .cell →
    Table.get? (t.link l).raw 2 = (if u.phase = .atLimit ∧ run.phase ≠ .atLimit then
      some (.atLimit run.number run.stop (testedValue run s.prog)) else Table.get? (s.link l).raw 2) ∧
    Table.get? (t.link l).raw 0 = (if u.phase ≠ run.phase then some (.runPhase run.number (.phase u.phase))
      else Table.get? (s.link l).raw 0)) ∧
  t.gap.settle = (if u.phase = .cutting ∧ run.phase ≠ .cutting ∧ s.cfg.settleOnResume = true ∧
    s.cfg.settleTime ≠ 0 then some (s.cfg.settleTime * 10000) else s.gap.settle)

section
variable {s : State} {run : Run} (hrun : s.run = some run)
include hrun

/-- A run that stays in its phase. -/
theorem sampleTested_stays : SampleTested run run false s s :=
  ⟨hrun, rfl, rfl, fun _ _ => ⟨(if_neg fun h => h.2 h.1).symm, (if_neg fun h => h rfl).symm⟩,
    (if_neg fun h => h.2.1 h.1).symm⟩

/-- AT_LIMIT is entered with its event (R67). -/
theorem sampleTested_atLimit (hn : NothingStands s) (hp : run.phase ≠ .atLimit) :
    SampleTested run { run with phase := .atLimit } false s (enterTracking .atLimit (postAtLimit s)) := by
  have hpost : postAtLimit s = post (.atLimit run.number run.stop (testedValue run s.prog)) s := by
    simp [postAtLimit, hrun]
  have hrun' : (postAtLimit s).run = some run := by rw [postAtLimit_run, hrun]
  have hn' : NothingStands (postAtLimit s) := by rw [hpost]; exact hn
  refine ⟨enterTracking_run_of_nothing _ hn' hrun', by rw [enterTracking_prog, postAtLimit_prog], ?warn, fun l hl =>
    ⟨?limit, ?phase⟩, ?settle⟩
  case warn =>
    have h := get?_raw_enterTracking .atLimit hrun' .motion (b := 1) (by decide) (by decide)
    rw [hpost, get?_raw_post_other _ _ _ (by simp [Event.bit])] at h
    rw [hpost]
    exact h
  case limit =>
    have hr : (routed l).getLsbD 2 = true := by rcases hl with rfl | rfl <;> decide
    rw [get?_raw_enterTracking _ hrun' _ (by decide) (by decide), hpost, if_pos ⟨rfl, hp⟩]
    exact get?_raw_post_same (.atLimit ..) _ hr (by simp [Event.bit])
  case phase =>
    rw [get?_raw_enterTracking_phase _ hn' hrun' hl, if_pos fun h => hp h.symm]
  case settle =>
    rw [enterTracking_settle_atLimit hn', hpost, post_gap]
    simp

/-- CUTTING is entered with its settle trigger (R69). -/
theorem sampleTested_cutting (hn : NothingStands s) (hp : run.phase ≠ .cutting) :
    SampleTested run { run with phase := .cutting } false s (enterTracking .cutting s) := by
  refine ⟨enterTracking_run_of_nothing _ hn hrun, enterTracking_prog .., ?warn, fun l hl => ⟨?limit, ?phase⟩, ?settle⟩
  case warn => exact get?_raw_enterTracking .cutting hrun .motion (by decide) (by decide)
  case limit => rw [get?_raw_enterTracking _ hrun _ (by decide) (by decide)]; simp
  case phase => rw [get?_raw_enterTracking_phase _ hn hrun hl, if_pos fun h => hp h.symm]
  case settle => rw [enterTracking_settle_cutting hn]; simp [settledOnResume, hp]

end

/-- The evaluation of the warn indicator at a sample in CUTTING (R70, R71). -/
theorem evaluateWarn_of_cutting {s : State} {run : Run} (hrun : s.run = some run) (hp : run.phase = .cutting) :
    evaluateWarn s =
      if warnAsserts s.cfg s.prog run then
        post (.warn run.number (remaining run s.prog)) { s with run := some { run with warn := true } }
      else if warnClears s.cfg s.prog run then { s with run := some { run with warn := false } }
      else s := by
  have hasserts : (!run.warn && decide (remaining run s.prog ≤ s.cfg.warnDist)) = warnAsserts s.cfg s.prog run := by
    simp [warnAsserts, hp]
  have hclears : (run.warn && s.cfg.warnMode == .level &&
      decide (((s.cfg.warnDist + s.cfg.warnHyst : Nat) : Int) < remaining run s.prog)) =
        warnClears s.cfg s.prog run := by
    simp only [warnClears, hp, decide_true, Bool.true_and]
    rfl
  simp only [evaluateWarn, hrun, hasserts, hclears]

/-- It writes the warn indicator, and posts WARN where it asserts it. -/
theorem evaluateWarn_eq {s : State} {run : Run} (hrun : s.run = some run) (hp : run.phase = .cutting) :
    evaluateWarn s =
      if warnAsserts s.cfg s.prog run then
        post (.warn run.number (remaining run s.prog)) { s with run := some (warnedRun s.cfg s.prog run) }
      else { s with run := some (warnedRun s.cfg s.prog run) } := by
  rw [evaluateWarn_of_cutting hrun hp, warnedRun]
  cases ha : warnAsserts s.cfg s.prog run with
  | true =>
    have hc : warnClears s.cfg s.prog run = false := by
      have hw : run.warn = false := by simp [warnAsserts] at ha; exact ha.1.2
      simp [warnClears, hw]
    simp [hc]
  | false =>
    cases hc : warnClears s.cfg s.prog run with
    | true => simp
    | false => simp [← hrun]

section
variable {s : State} {run : Run} (hrun : s.run = some run) (hp : run.phase = .cutting)
include hrun hp

theorem evaluateWarn_run_of_cutting : (evaluateWarn s).run = some (warnedRun s.cfg s.prog run) := by
  rw [evaluateWarn_eq hrun hp]
  split <;> rfl

theorem evaluateWarn_gap_of_cutting : (evaluateWarn s).gap = s.gap := by
  rw [evaluateWarn_eq hrun hp]
  split <;> rfl

/-- WARN is routed to the Motion Link alone (Table 10-2). -/
theorem get?_raw_evaluateWarn_warn :
    Table.get? (evaluateWarn s).motion.raw 1 =
      (if warnAsserts s.cfg s.prog run then some (.warn run.number (remaining run s.prog))
        else Table.get? s.motion.raw 1) := by
  have hr : (routed .motion).getLsbD 1 = true := by decide
  rw [evaluateWarn_eq hrun hp]
  split
  · exact get?_raw_post_same (l := .motion) (.warn ..) _ hr (by simp [Event.bit])
  · rfl

theorem get?_raw_evaluateWarn_other (l : Link) {b : Nat} (h : b ≠ 1) :
    Table.get? ((evaluateWarn s).link l).raw b = Table.get? (s.link l).raw b := by
  rw [evaluateWarn_eq hrun hp]
  split
  · rw [get?_raw_post_other _ _ _ (by simpa [Event.bit] using h)]
    cases l <;> rfl
  · cases l <;> rfl

/-- What the tests do after the warn indicator they do in all. -/
theorem sampleTested_of_warned {u : Run} {t : State}
    (h : SampleTested (warnedRun s.cfg s.prog run) u false (evaluateWarn s) t) :
    SampleTested run u (warnAsserts s.cfg s.prog run) s t := by
  obtain ⟨hu, hprog, hwarn, hevents, hsettle⟩ := h
  rw [evaluateWarn_prog] at hprog hevents
  rw [evaluateWarn_gap_of_cutting hrun hp, evaluateWarn_cfg] at hsettle
  have hw : Table.get? t.motion.raw 1 = Table.get? (evaluateWarn s).motion.raw 1 := hwarn
  refine ⟨hu, hprog, hw.trans (get?_raw_evaluateWarn_warn hrun hp), fun l hl => ?_, hsettle⟩
  obtain ⟨hlimit, hphase⟩ := hevents l hl
  rw [get?_raw_evaluateWarn_other hrun hp l (by decide)] at hlimit hphase
  exact ⟨hlimit, hphase⟩

end

theorem stopReached_iff (run : Run) (prog : Progress) :
    stopReached run prog = true ↔ run.stop ≤ testedValue run prog := by
  simp [stopReached]

theorem approachDone_iff (s : State) (run : Run) :
    approachDone s run = true ↔ ¬ s.prog.r < (run.c : Int) - s.cfg.resumeTol := by
  simp [approachDone]

/-- Outside CUTTING the warn indicator stays (R70). -/
theorem warn_stays (cfg : ConfigRecord) (prog : Progress) {run : Run} (hp : run.phase ≠ .cutting) :
    warnAsserts cfg prog run = false ∧ warnedRun cfg prog run = run := by
  have hasserts : warnAsserts cfg prog run = false := by simp [warnAsserts, hp]
  have hclears : warnClears cfg prog run = false := by simp [warnClears, hp]
  simp [warnedRun, hasserts, hclears]

section
variable {s : State} {run : Run} {res : SampleResult} (hrun : s.run = some run) (hn : NothingStands s)
  (hent : res.entered = false)
include hrun hn hent

/-- APPROACH ends at the cut-from distance less resume_tol (R66). -/
theorem sampleTested_of_approach (hon : res.onPath = true) (hp : run.phase = .approach) :
    SampleTested run { run with phase := phaseAfter s.cfg s.prog run } false s
      (phaseTests run.phase .loop res s) := by
  have htests : phaseTests run.phase .loop res s = if approachDone s run then enterCutting s else s := by
    simp [phaseTests, hrun, hent, hp, hon]
  have henter : enterCutting s = if stopReached run s.prog then enterTracking .atLimit (postAtLimit s)
      else enterTracking .cutting s := by simp [enterCutting, hrun]
  rw [htests, henter]
  by_cases hd : s.prog.r < (run.c : Int) - s.cfg.resumeTol
  · rw [if_neg (fun h => (approachDone_iff s run).mp h hd), phaseAfter, if_pos ⟨hp, hd⟩, ← hp]
    exact sampleTested_stays hrun
  · rw [if_pos ((approachDone_iff s run).mpr hd), phaseAfter, if_neg (fun h => hd h.2)]
    by_cases hs : run.stop ≤ testedValue run s.prog
    · rw [if_pos ((stopReached_iff ..).mpr hs), if_pos (.inr hs)]
      exact sampleTested_atLimit hrun hn (by simp [hp])
    · rw [if_neg (mt (stopReached_iff ..).mp hs), if_neg (by simp [hp, hs])]
      exact sampleTested_cutting hrun hn (by simp [hp])

/-- In CUTTING the warn indicator is evaluated, and the run goes to AT_LIMIT at its stop point (R67, R70, R71). -/
theorem sampleTested_of_cutting (hp : run.phase = .cutting) :
    SampleTested run { warnedRun s.cfg s.prog run with phase := phaseAfter s.cfg s.prog run }
      (warnAsserts s.cfg s.prog run) s (phaseTests run.phase .loop res s) := by
  have hwrun := evaluateWarn_run_of_cutting hrun hp
  have hwn : NothingStands (evaluateWarn s) :=
    nothingStands_of_eq hn (by simp) (by simp) (by rw [evaluateWarn_gap_of_cutting hrun hp])
  have htests : phaseTests run.phase .loop res s =
      if stopReached run s.prog then enterTracking .atLimit (postAtLimit (evaluateWarn s)) else evaluateWarn s := by
    simp [phaseTests, hrun, hent, hp]
  rw [htests]
  refine sampleTested_of_warned hrun hp ?_
  by_cases hs : run.stop ≤ testedValue run s.prog
  · rw [if_pos ((stopReached_iff ..).mpr hs), phaseAfter, if_neg (by simp [hp]), if_pos (.inr hs)]
    exact sampleTested_atLimit hwrun hwn (by simp [warnedRun, hp])
  · rw [if_neg (mt (stopReached_iff ..).mp hs), phaseAfter, if_neg (by simp [hp]), if_neg (by simp [hp, hs]), ← hp]
    exact sampleTested_stays hwrun

/-- The tests of an on-path loop sample (R66, R67, R70, R71). -/
theorem sampleTested_phaseTests (hphase : run.phase = .approach ∨ run.phase = .cutting ∨ run.phase = .atLimit)
    (hon : res.onPath = true) :
    SampleTested run { warnedRun s.cfg s.prog run with phase := phaseAfter s.cfg s.prog run }
      (warnAsserts s.cfg s.prog run) s (phaseTests run.phase .loop res s) := by
  obtain hp | hp | hp := hphase
  · obtain ⟨hasserts, hwarned⟩ := warn_stays s.cfg s.prog (run := run) (by simp [hp])
    rw [hasserts, hwarned]
    exact sampleTested_of_approach hrun hn hent hon hp
  · exact sampleTested_of_cutting hrun hn hent hp
  · obtain ⟨hasserts, hwarned⟩ := warn_stays s.cfg s.prog (run := run) (by simp [hp])
    have htests : phaseTests run.phase .loop res s = s := by simp [phaseTests, hrun, hent, hp]
    rw [hasserts, hwarned, htests, phaseAfter, if_neg (by simp [hp]), if_pos (.inl hp), ← hp]
    exact sampleTested_stays hrun

end

/-! ### PROGRESS_SAMPLE on the loop -/

/-- The state in which a sample completes: none in progress any more, its presence read (R40). -/
def sampleTaken (presence : Bool) (s : State) : State :=
  { s with sampling := .none, gap := { s.gap with presence := presence } }

/-- A sample completes with the phase and kind of the run, whether it was in progress or expires now. -/
theorem exec_progressSample_of_samples {run : Run} {presence : Bool} {s : State} (h : Samples run presence s) :
    ∃ left, exec .progressSample s =
      .next (drive (completeSample run.phase run.kind presence (sampleTaken left s))) := by
  obtain ⟨hreset, hrun, htracking, ⟨hnone, hpresence⟩ | hsampling⟩ := h
  · have hsampled : sampledRun s = some run := by simp [sampledRun, hrun, htracking]
    have hsame : takePresence s = sampleTaken false s := by rw [sampleTaken, ← hnone]; rfl
    have hexec : progressSample s = drive (completeSample run.phase run.kind presence (sampleTaken false s)) := by
      simp [progressSample, hreset, hnone, hsampled, hpresence, hsame]
    exact ⟨false, congrArg Host.Outcome.next hexec⟩
  · have hexec : progressSample s =
        drive (completeSample run.phase run.kind presence (sampleTaken s.gap.presence s)) := by
      simp [progressSample, hreset, hsampling, sampleTaken]
    exact ⟨s.gap.presence, congrArg Host.Outcome.next hexec⟩

/-- The state that the phase tests of an on-path loop sample find: the run distance moved, the wire out of its hole
(R64), and the credit with the Coverage Unit. -/
def sampleCredited (run : Run) (res : SampleResult) (s : State) : State :=
  creditSample res.credit { s with prog := res.prog, run := some { run with leftHole := true } }

/-- The end of a sample after the phase tests: the trace record, the remaining distance kept, the outputs. -/
def sampleFinished (p : Phase) (s : State) : State := drive (keepRemaining (traceSample p s))

/-- An on-path loop sample without TRACK_LOSS, part by part. -/
theorem drive_completeSample_of_loop {s : State} {run : Run} {presence : Bool} (hrun : s.run = some run)
    (hpath : s.prog.path = .loop)
    (hon : (samplePath s run run.phase run.kind presence).onPath = true)
    (hlossy : (samplePath s run run.phase run.kind presence).lossy = false) :
    drive (completeSample run.phase run.kind presence s) =
      sampleFinished run.phase (phaseTests run.phase .loop (samplePath s run run.phase run.kind presence)
        (sampleCredited run (samplePath s run run.phase run.kind presence) s)) := by
  simp [sampleFinished, completeSample, hrun, hpath, hon, hlossy, leaveHole, markLeadIn, State.modRun, sampleCredited]

theorem sampleCredited_eq (run : Run) (res : SampleResult) (s : State) :
    ∃ p m t c, sampleCredited run res s = { s with
      prog := res.prog, run := some { run with leftHole := true }, plate := p, motion := m, thread := t, cell := c } :=
  creditSample_eq ..

theorem get?_raw_sampleCredited (run : Run) (res : SampleResult) (s : State) (l : Link) {b : Nat} (h : b ≠ 7) :
    Table.get? ((sampleCredited run res s).link l).raw b = Table.get? (s.link l).raw b := by
  rw [sampleCredited, get?_raw_creditSample _ _ _ h]
  cases l <;> rfl

theorem sampleFinished_run {p : Phase} {s : State} {run : Run} (hrun : s.run = some run) :
    (sampleFinished p s).run = some { run with sampledRem := some (remaining run s.prog) } := by
  obtain ⟨_, _, _, _, _, h⟩ := traceSample_eq p s
  rw [sampleFinished, drive_run, keepRemaining_eq, h]
  simp [hrun]

theorem sampleFinished_prog (p : Phase) (s : State) : (sampleFinished p s).prog = s.prog := by
  obtain ⟨_, _, _, _, _, h⟩ := traceSample_eq p s
  rw [sampleFinished, drive_prog, keepRemaining_eq, h]

theorem sampleFinished_settle (p : Phase) (s : State) : (sampleFinished p s).gap.settle = s.gap.settle := by
  obtain ⟨_, _, _, _, _, h⟩ := traceSample_eq p s
  rw [sampleFinished, keepRemaining_eq, h]
  rfl

theorem get?_raw_sampleFinished (p : Phase) (s : State) (l : Link) {b : Nat} (h13 : b ≠ 13) (h14 : b ≠ 14) :
    Table.get? ((sampleFinished p s).link l).raw b = Table.get? (s.link l).raw b := by
  rw [sampleFinished, drive_raw, ← get?_raw_traceSample p s l h13 h14]
  cases l <;> rfl

/-- From the state before a sample to the state after it, by way of the phase tests. -/
theorem sampleTested_finished {run q u : Run} {warns : Bool} {res : SampleResult} {p : Phase} {s t : State}
    (hq : q = { run with leftHole := true }) (h : SampleTested q u warns (sampleCredited run res s) t) :
    (sampleFinished p t).run = some { u with sampledRem := some (remaining u res.prog) } ∧
      (sampleFinished p t).prog = res.prog ∧
      Table.get? (sampleFinished p t).motion.raw 1 =
        (if warns then some (.warn run.number (remaining run res.prog)) else Table.get? s.motion.raw 1) ∧
      (∀ l, l = .motion ∨ l = .cell →
        Table.get? ((sampleFinished p t).link l).raw 2 = (if u.phase = .atLimit ∧ run.phase ≠ .atLimit then
          some (.atLimit run.number run.stop (testedValue run res.prog)) else Table.get? (s.link l).raw 2) ∧
        Table.get? ((sampleFinished p t).link l).raw 0 =
          (if u.phase ≠ run.phase then some (.runPhase run.number (.phase u.phase))
            else Table.get? (s.link l).raw 0)) ∧
      (sampleFinished p t).gap.settle = (if u.phase = .cutting ∧ run.phase ≠ .cutting ∧
        s.cfg.settleOnResume = true ∧ s.cfg.settleTime ≠ 0 then some (s.cfg.settleTime * 10000)
        else s.gap.settle) := by
  subst hq
  obtain ⟨_, _, _, _, hcredited⟩ := sampleCredited_eq run res s
  have hprog : (sampleCredited run res s).prog = res.prog := by rw [hcredited]
  have hcfg : (sampleCredited run res s).cfg = s.cfg := by rw [hcredited]
  have hgap : (sampleCredited run res s).gap = s.gap := by rw [hcredited]
  have hmotion : Table.get? (sampleCredited run res s).motion.raw 1 = Table.get? s.motion.raw 1 :=
    get?_raw_sampleCredited run res s .motion (by decide)
  obtain ⟨hu, htprog, hwarn, hevents, hsettle⟩ := h
  rw [hprog] at htprog hwarn hevents
  rw [hmotion] at hwarn
  rw [hcfg, hgap] at hsettle
  refine ⟨by rw [sampleFinished_run hu, htprog], by rw [sampleFinished_prog, htprog], ?warn, fun l hl => ?events,
    by rw [sampleFinished_settle, hsettle]⟩
  case warn => exact (get?_raw_sampleFinished p t .motion (by decide) (by decide)).trans hwarn
  case events =>
    obtain ⟨hlimit, hphase⟩ := hevents l hl
    rw [get?_raw_sampleCredited _ _ _ _ (by decide)] at hlimit hphase
    rw [get?_raw_sampleFinished _ _ _ (by decide) (by decide), get?_raw_sampleFinished _ _ _ (by decide) (by decide)]
    exact ⟨hlimit, hphase⟩

/-- Settles O54: the sample credits, the tests act on the credited state, and the rest of the sample leaves what they
did. -/
theorem loopSampleTestsPhaseAndWarn : Obligations.LoopSampleTestsPhaseAndWarn := by
  unfold Obligations.LoopSampleTestsPhaseAndWarn
  intro run presence c v s hs hphase havail hpath hc hv w new delta r credits hcap hdev hn hdry
  have hcredits : (run.phase.credits && run.kind != .skim) = credits := by
    obtain hp | hp | hp := hphase <;> cases hk : run.kind <;> simp [credits, hp, hk, Phase.credits]
  obtain ⟨left, hexec⟩ := exec_progressSample_of_samples hs
  obtain ⟨-, hrun, -, -⟩ := hs
  obtain ⟨hon, hent, hr, hlossy⟩ :=
    samplePath_of_loop (s := sampleTaken left s) (run := run) presence havail hpath hc hcap hdev
  have hquiet := hlossy (by rw [hcredits]; exact hdry)
  rw [drive_completeSample_of_loop (s := sampleTaken left s) hrun hpath hon hquiet] at hexec
  generalize samplePath (sampleTaken left s) run run.phase run.kind presence = res at hexec hon hent hr
  obtain ⟨_, _, _, _, hcredited⟩ := sampleCredited_eq run res (sampleTaken left s)
  have htested := sampleTested_phaseTests (s := sampleCredited run res (sampleTaken left s))
    (run := { run with leftHole := true }) (by rw [hcredited]) (by rw [hcredited]; exact hn) hent hphase hon
  have hprog : (sampleCredited run res (sampleTaken left s)).prog = res.prog := by rw [hcredited]
  have hcfg : (sampleCredited run res (sampleTaken left s)).cfg = s.cfg := by rw [hcredited]; rfl
  rw [hprog, hcfg] at htested
  obtain ⟨hu, htprog, hwarn, hevents, hsettle⟩ := sampleTested_finished (p := run.phase) rfl htested
  rw [← htprog] at hu hwarn hevents hsettle hr
  generalize sampleFinished run.phase (phaseTests run.phase .loop res
    (sampleCredited run res (sampleTaken left s))) = t at hexec hu hwarn hevents hsettle hr
  have hdist : t.prog.r = r := hr
  refine ⟨t, _, hexec, hu, ?_⟩
  rw [← testedValue_eq run t.prog, ← hdist]
  exact ⟨rfl, hwarn, hevents, hsettle⟩

end Sys2Proof.Runs
end

section
/-! SUPPORT. Coverage and tabs (chapter 5): what a merge does to a coverage list, what the uncovered stretches are on
the loop, and where a stretch meets a tab; the statements settled from these rules. -/

namespace Sys2Proof.CoverageTabs

open Sys2Proof.Machine Sys2Proof.Runs

/-! ### The form of a coverage list (R83) -/

theorem coverageWf_cons (n low : Nat) (p : Span) (rest : List Span) :
    coverageWf n low (p :: rest) = true ↔
      low ≤ p.lo ∧ p.lo < p.hi ∧ p.hi ≤ n ∧ coverageWf n (p.hi + 1) rest = true := by
  simp only [coverageWf, Bool.and_eq_true, decide_eq_true_eq, and_assoc]

theorem coverageWf_of_le {n low low' : Nat} {cov : List Span} (h : coverageWf n low cov = true) (hle : low' ≤ low) :
    coverageWf n low' cov = true := by
  cases cov with
  | nil => rfl
  | cons p rest =>
    obtain ⟨hlow, hrest⟩ := (coverageWf_cons ..).mp h
    exact (coverageWf_cons ..).mpr ⟨hle.trans hlow, hrest⟩

theorem le_lo_of_mem {n low : Nat} {cov : List Span} (h : coverageWf n low cov = true) {p : Span} (hp : p ∈ cov) :
    low ≤ p.lo :=
  le_of_inSpans h ((inSpans_iff ..).mpr ⟨p, hp, Nat.le_refl _, (proper_of_coverageWf h p hp).1⟩)

/-- The intervals ascend, and a cell at least lies between two of them. -/
theorem pairwise_of_coverageWf {n low : Nat} {cov : List Span} (h : coverageWf n low cov = true) :
    cov.Pairwise (fun p q => p.hi < q.lo) := by
  induction cov generalizing low with
  | nil => exact .nil
  | cons p rest ih =>
    obtain ⟨-, -, -, hrest⟩ := (coverageWf_cons ..).mp h
    exact .cons (fun q hq => le_lo_of_mem hrest hq) (ih hrest)

/-- Two intervals are one, or a cell at least lies between them. -/
theorem eq_or_apart {n low : Nat} {cov : List Span} (h : coverageWf n low cov = true) {p q : Span} (hp : p ∈ cov)
    (hq : q ∈ cov) : p = q ∨ p.hi < q.lo ∨ q.hi < p.lo := by
  induction cov generalizing low with
  | nil => simp at hp
  | cons r rest ih =>
    obtain ⟨-, -, -, hrest⟩ := (coverageWf_cons ..).mp h
    obtain rfl | hpr := List.mem_cons.mp hp <;> obtain rfl | hqr := List.mem_cons.mp hq
    · exact .inl rfl
    · exact .inr (.inl (le_lo_of_mem hrest hqr))
    · exact .inr (.inr (le_lo_of_mem hrest hpr))
    · exact ih hrest hpr hqr

/-- The cell before an interval and the cell after it lie in none. -/
theorem not_inSpans_beside {n low : Nat} {cov : List Span} (h : coverageWf n low cov = true) {p : Span} (hp : p ∈ cov) :
    (0 < p.lo → ¬ inSpans (p.lo - 1) cov = true) ∧ ¬ inSpans p.hi cov = true := by
  have hlt := (proper_of_coverageWf h p hp).1
  constructor
  · intro h0 hin
    obtain ⟨q, hq, hlo, hhi⟩ := (inSpans_iff ..).mp hin
    obtain rfl | hapart := eq_or_apart h hp hq <;> omega
  · intro hin
    obtain ⟨q, hq, hlo, hhi⟩ := (inSpans_iff ..).mp hin
    obtain rfl | hapart := eq_or_apart h hp hq <;> omega

/-! ### Merging (R84) -/

theorem mergePiece_nil (p : Span) : mergePiece [] p = [p] := rfl

theorem mergePiece_before {x p : Span} (rest : List Span) (h : x.hi < p.lo) :
    mergePiece (x :: rest) p = x :: mergePiece rest p := if_pos h

theorem mergePiece_after {x p : Span} (rest : List Span) (hx : ¬ x.hi < p.lo) (h : p.hi < x.lo) :
    mergePiece (x :: rest) p = p :: x :: rest := (if_neg hx).trans (if_pos h)

theorem mergePiece_touching {x p : Span} (rest : List Span) (hx : ¬ x.hi < p.lo) (hp : ¬ p.hi < x.lo) :
    mergePiece (x :: rest) p = mergePiece rest ⟨min x.lo p.lo, max x.hi p.hi⟩ := (if_neg hx).trans (if_neg hp)

theorem coverageWf_mergePiece {n low : Nat} {cov : List Span} {p : Span} (h : coverageWf n low cov = true)
    (hlow : low ≤ p.lo) (hlt : p.lo < p.hi) (hle : p.hi ≤ n) : coverageWf n low (mergePiece cov p) = true := by
  induction cov generalizing low p with
  | nil => exact (coverageWf_cons ..).mpr ⟨hlow, hlt, hle, rfl⟩
  | cons x rest ih =>
    obtain ⟨hxlow, hxlt, hxle, hrest⟩ := (coverageWf_cons ..).mp h
    by_cases hbefore : x.hi < p.lo
    · rw [mergePiece_before rest hbefore]
      exact (coverageWf_cons ..).mpr ⟨hxlow, hxlt, hxle, ih hrest hbefore hlt hle⟩
    by_cases hafter : p.hi < x.lo
    · rw [mergePiece_after rest hbefore hafter]
      exact (coverageWf_cons ..).mpr ⟨hlow, hlt, hle, (coverageWf_cons ..).mpr ⟨hafter, hxlt, hxle, hrest⟩⟩
    · rw [mergePiece_touching rest hbefore hafter]
      exact ih (coverageWf_of_le hrest (by omega)) (le_min hxlow hlow) (by simp only; omega) (max_le hxle hle)

/-- A merge adds the cells of the piece and no other. -/
theorem inSpans_mergePiece {n : Nat} {cov : List Span} {p : Span} (h : Proper n cov) (hlt : p.lo < p.hi) (y : Nat) :
    inSpans y (mergePiece cov p) = true ↔ inSpans y cov = true ∨ (p.lo ≤ y ∧ y < p.hi) := by
  induction cov generalizing p with
  | nil => simp [mergePiece_nil, inSpans_cons, inSpans_nil]
  | cons x rest ih =>
    have hrest : Proper n rest := fun r hr => h r (List.mem_cons_of_mem _ hr)
    have hxlt := (h x List.mem_cons_self).1
    by_cases hbefore : x.hi < p.lo
    · rw [mergePiece_before rest hbefore, inSpans_cons, inSpans_cons, ih hrest hlt, or_assoc]
    by_cases hafter : p.hi < x.lo
    · rw [mergePiece_after rest hbefore hafter, inSpans_cons, or_comm]
    · have hhull : (min x.lo p.lo ≤ y ∧ y < max x.hi p.hi) ↔ (x.lo ≤ y ∧ y < x.hi) ∨ (p.lo ≤ y ∧ y < p.hi) := by omega
      rw [mergePiece_touching rest hbefore hafter, ih hrest (by simp only; omega), hhull, inSpans_cons]
      tauto

/-- Pieces merged one after another keep the form of the list and add their cells. -/
theorem foldl_mergePiece_spec {n : Nat} {cov pieces : List Span} (h : coverageWf n 0 cov = true)
    (hp : Proper n pieces) :
    coverageWf n 0 (pieces.foldl mergePiece cov) = true ∧
      ∀ y, inSpans y (pieces.foldl mergePiece cov) = true ↔ inSpans y cov = true ∨ inSpans y pieces = true := by
  induction pieces generalizing cov with
  | nil => simp [h, inSpans_nil]
  | cons p rest ih =>
    obtain ⟨hlt, hle⟩ := hp p List.mem_cons_self
    obtain ⟨hwf, hcells⟩ := ih (coverageWf_mergePiece h (Nat.zero_le _) hlt hle)
      fun r hr => hp r (List.mem_cons_of_mem _ hr)
    refine ⟨hwf, fun y => ?_⟩
    rw [List.foldl_cons, hcells y, inSpans_mergePiece (proper_of_coverageWf h) hlt, inSpans_cons, or_assoc]

/-! ### Credits (R82, R84) -/

theorem runStretch_len (e0 : Nat) (dir : Dir) (n a1 a2 : Nat) : (runStretch e0 dir n a1 a2).len = a2 - a1 := by
  cases dir <;> rfl

theorem runStretch_first_lt (e0 : Nat) (dir : Dir) {n : Nat} (a1 a2 : Nat) (hn : 0 < n) :
    (runStretch e0 dir n a1 a2).first < n := by
  cases dir with
  | fwd => exact Nat.mod_lt _ hn
  | rev => exact toNat_emod_lt _ hn

/-- Cell k of the stretch is that of run distance a1 + k. -/
theorem runStretch_cell_fwd (e0 n a1 a2 k : Nat) :
    ((runStretch e0 .fwd n a1 a2).first + k) % n = cellOf e0 .fwd n (a1 + k) := by
  have hcell : cellOf e0 .fwd n (a1 + k) = (((e0 : Int) + (a1 + k : Nat)) % n).toNat := rfl
  rw [hcell, runStretch, Nat.mod_add_mod, mod_eq_toNat_emod]
  push_cast
  rw [add_assoc]

/-- In reverse the last run distance names the first cell of the stretch. -/
theorem runStretch_cell_rev (e0 a1 : Nat) {n a2 k : Nat} (hn : 0 < n) (hk : k < a2) :
    ((runStretch e0 .rev n a1 a2).first + k) % n = cellOf e0 .rev n (a2 - 1 - k) := by
  have hcell : cellOf e0 .rev n (a2 - 1 - k) = (((e0 : Int) - ((a2 - 1 - k : Nat) + 1)) % n).toNat := rfl
  have hdist : (e0 : Int) - ((a2 - 1 - k : Nat) + 1) = e0 - a2 + k := by omega
  rw [hcell, hdist, runStretch, mod_eq_toNat_emod]
  push_cast
  rw [Int.toNat_of_nonneg (Int.emod_nonneg _ (by omega)), Int.emod_add_emod]

/-- The cells of the credited stretch are those of its run distances (R82). -/
theorem mem_runStretch_iff (e0 : Nat) (dir : Dir) {n a1 a2 : Nat} (hn : 0 < n) (x : Nat) :
    (∃ k, k < (runStretch e0 dir n a1 a2).len ∧ x = ((runStretch e0 dir n a1 a2).first + k) % n) ↔
      ∃ q, a1 ≤ q ∧ q < a2 ∧ x = cellOf e0 dir n q := by
  rw [runStretch_len]
  cases dir with
  | fwd =>
    simp only [runStretch_cell_fwd]
    constructor
    · rintro ⟨k, hk, rfl⟩
      exact ⟨a1 + k, by omega, by omega, rfl⟩
    · rintro ⟨q, hlo, hhi, rfl⟩
      exact ⟨q - a1, by omega, by rw [Nat.add_sub_cancel' hlo]⟩
  | rev =>
    constructor
    · rintro ⟨k, hk, rfl⟩
      exact ⟨a2 - 1 - k, by omega, by omega, runStretch_cell_rev e0 a1 hn (by omega)⟩
    · rintro ⟨q, hlo, hhi, rfl⟩
      refine ⟨a2 - 1 - q, by omega, ?_⟩
      rw [runStretch_cell_rev e0 a1 hn (by omega), show a2 - 1 - (a2 - 1 - q) = q by omega]

/-- A credit keeps the form of the list and covers the cells of the credited run distances (R84). -/
theorem creditList_spec (e0 : Nat) (dir : Dir) {n a1 a2 : Nat} {cov : List Span} (h : coverageWf n 0 cov = true)
    (hlt : a1 < a2) (hle : a2 ≤ n) :
    coverageWf n 0 (creditList e0 dir n cov a1 a2) = true ∧
    ∀ x, x < n → (inSpans x (creditList e0 dir n cov a1 a2) = true ↔
      inSpans x cov = true ∨ ∃ q, a1 ≤ q ∧ q < a2 ∧ x = cellOf e0 dir n q) := by
  have hn : 0 < n := by omega
  have hfirst := runStretch_first_lt e0 dir a1 a2 hn
  have hlen := runStretch_len e0 dir n a1 a2
  obtain ⟨hwf, hcells⟩ := foldl_mergePiece_spec h
    (proper_pieces hfirst (show 0 < (runStretch e0 dir n a1 a2).len by omega) (by omega))
  refine ⟨hwf, fun x hx => (hcells x).trans ?_⟩
  rw [inSpans_pieces hfirst (by omega) hx, mem_runStretch_iff e0 dir hn]

/-! ### The uncovered intervals (R85) -/

/-- The uncovered intervals have the form of a coverage list themselves: covered cells lie between them. -/
theorem coverageWf_gapsFrom {n low x : Nat} {cov : List Span} (h : coverageWf n low cov = true) (hx : x ≤ low) :
    coverageWf n x (gapsFrom n x cov) = true := by
  induction cov generalizing low x with
  | nil =>
    rw [gapsFrom]
    split
    · exact (coverageWf_cons ..).mpr ⟨Nat.le_refl _, ‹_›, Nat.le_refl _, rfl⟩
    · rfl
  | cons p rest ih =>
    obtain ⟨hlow, hlt, hle, hrest⟩ := (coverageWf_cons ..).mp h
    have hgaps := ih hrest (Nat.le_succ _)
    rw [gapsFrom]
    split
    · exact (coverageWf_cons ..).mpr ⟨Nat.le_refl _, ‹_›, by simp only; omega, coverageWf_of_le hgaps hlt⟩
    · exact coverageWf_of_le hgaps (by omega)

theorem coverageWf_uncoveredSpans {n : Nat} {cov : List Span} (h : coverageWf n 0 cov = true) :
    coverageWf n 0 (uncoveredSpans n cov) = true := coverageWf_gapsFrom h (Nat.le_refl 0)

theorem uncoveredSpans_eq_nil_iff {n : Nat} {cov : List Span} (h : coverageWf n 0 cov = true) :
    uncoveredSpans n cov = [] ↔ ∀ x, x < n → inSpans x cov = true := by
  constructor
  · intro hnil x hx
    have hopen := inSpans_uncoveredSpans h hx
    rw [hnil, inSpans_nil] at hopen
    exact not_not.mp (mt hopen.mpr Bool.false_ne_true)
  · intro hfull
    refine List.eq_nil_iff_forall_not_mem.mpr fun p hp => ?_
    obtain ⟨hlt, hle⟩ := proper_uncoveredSpans h p hp
    have hlo : p.lo < n := by omega
    exact (inSpans_uncoveredSpans h hlo).mp ((inSpans_iff ..).mpr ⟨p, hp, Nat.le_refl _, hlt⟩) (hfull _ hlo)

/-! ### The uncovered stretches on the loop (R85) -/

/-- The last interval of the loop and the first one as one stretch across loop position 0. -/
def joined (last first : Span) : Stretch := ⟨last.lo, last.hi - last.lo + first.hi⟩

theorem uncovered_of_nil {n : Nat} {cov : List Span} (h : uncoveredSpans n cov = []) : uncovered n cov = [] := by
  unfold uncovered
  rw [h]

theorem uncovered_of_singleton {n : Nat} {cov : List Span} {p : Span} (h : uncoveredSpans n cov = [p]) :
    uncovered n cov = [p.stretch] := by
  unfold uncovered
  rw [h]

theorem uncovered_of_several {n : Nat} {cov mid : List Span} {first last : Span}
    (h : uncoveredSpans n cov = first :: (mid ++ [last])) :
    uncovered n cov = if first.lo = 0 ∧ last.hi = n then mid.map Span.stretch ++ [joined last first]
      else (first :: (mid ++ [last])).map Span.stretch := by
  unfold uncovered
  rw [h]
  cases mid with
  | nil => rfl
  | cons q rest =>
    have hlast : (q :: (rest ++ [last])).getLastD q = last := List.getLastD_concat (l := q :: rest)
    have hmid : (q :: (rest ++ [last])).dropLast = q :: rest := List.dropLast_concat (l₁ := q :: rest)
    simp only [List.cons_append, hlast, hmid, joined]

/-- No two intervals meet across loop position 0: one that begins there and one that ends there are the same. -/
def MeetsNoOther (n : Nat) (spans : List Span) : Prop := ∀ p ∈ spans, ∀ q ∈ spans, p.lo = 0 → q.hi = n → p = q

/-- An interval of the list that begins at 0 is its first. -/
theorem eq_head_of_lo_zero {n : Nat} {p q : Span} {rest : List Span} (h : coverageWf n 0 (p :: rest) = true)
    (hq : q ∈ p :: rest) (h0 : q.lo = 0) : q = p := by
  obtain ⟨-, -, -, hrest⟩ := (coverageWf_cons ..).mp h
  obtain heq | hqr := List.mem_cons.mp hq
  · exact heq
  · have := le_lo_of_mem hrest hqr
    omega

/-- An interval of the list that ends at the end of the loop is its last. -/
theorem eq_last_of_hi {n low : Nat} {p q : Span} {rest : List Span} (h : coverageWf n low (rest ++ [p]) = true)
    (hq : q ∈ rest ++ [p]) (hn : q.hi = n) : q = p := by
  have hp : p ∈ rest ++ [p] := by simp
  have hqlt := (proper_of_coverageWf h q hq)
  have hplt := (proper_of_coverageWf h p hp)
  obtain ⟨-, -, hbefore⟩ := List.pairwise_append.mp (pairwise_of_coverageWf h)
  obtain hqr | hqp := List.mem_append.mp hq
  · have := hbefore q hqr p (by simp)
    omega
  · exact List.mem_singleton.mp hqp

/-- The uncovered stretches are the uncovered intervals, the last one joined with the first where the two meet at loop
position 0. -/
theorem uncovered_cases {n : Nat} {cov : List Span} (h : coverageWf n 0 cov = true) :
    (MeetsNoOther n (uncoveredSpans n cov) ∧ uncovered n cov = (uncoveredSpans n cov).map Span.stretch) ∨
    ∃ first mid last, uncoveredSpans n cov = first :: (mid ++ [last]) ∧ first.lo = 0 ∧ last.hi = n ∧
      uncovered n cov = mid.map Span.stretch ++ [joined last first] := by
  have hwf := coverageWf_uncoveredSpans h
  cases hspans : uncoveredSpans n cov with
  | nil => exact .inl ⟨by simp [MeetsNoOther], uncovered_of_nil hspans⟩
  | cons first tail =>
    obtain rfl | ⟨mid, last, rfl⟩ := List.eq_nil_or_concat' tail
    · exact .inl ⟨by simp [MeetsNoOther], uncovered_of_singleton hspans⟩
    rw [hspans] at hwf
    have hseveral := uncovered_of_several hspans
    by_cases hmeet : first.lo = 0 ∧ last.hi = n
    · exact .inr ⟨first, mid, last, rfl, hmeet.1, hmeet.2, hseveral.trans (if_pos hmeet)⟩
    · refine .inl ⟨fun p hp q hq h0 hn => absurd ?_ hmeet, hseveral.trans (if_neg hmeet)⟩
      obtain rfl := eq_head_of_lo_zero hwf hp h0
      obtain rfl := eq_last_of_hi (rest := p :: mid) hwf hq hn
      exact ⟨h0, hn⟩

/-- The first cells ascend: they are those of the uncovered intervals, without the first where it is joined. -/
theorem uncovered_firsts_pairwise {n : Nat} {cov : List Span} (h : coverageWf n 0 cov = true) :
    ((uncovered n cov).map (·.first)).Pairwise (· < ·) := by
  have hwf := coverageWf_uncoveredSpans h
  have hlos : ((uncoveredSpans n cov).map (·.lo)).Pairwise (· < ·) := by
    refine List.pairwise_map.mpr ((pairwise_of_coverageWf hwf).imp_of_mem fun hp _ hapart => ?_)
    exact (proper_of_coverageWf hwf _ hp).1.trans hapart
  have hfirsts (spans : List Span) : (spans.map Span.stretch).map (·.first) = spans.map (·.lo) := by
    rw [List.map_map]
    rfl
  obtain ⟨-, heq⟩ | ⟨first, mid, last, hspans, -, -, heq⟩ := uncovered_cases h
  · rw [heq, hfirsts]
    exact hlos
  · rw [hspans] at hlos
    rw [heq, List.map_append, hfirsts]
    simpa [joined] using (List.pairwise_cons.mp hlos).2

/-- The cells of a joined stretch are those of its two intervals. -/
theorem mem_joined_iff {n x : Nat} {first last : Span} (hx : x < n) (h0 : first.lo = 0) (hn : last.hi = n)
    (hapart : first.hi < last.lo) (hfirst : first.lo < first.hi) (hlast : last.lo < last.hi) :
    (∃ k, k < (joined last first).len ∧ x = ((joined last first).first + k) % n) ↔
      (first.lo ≤ x ∧ x < first.hi) ∨ (last.lo ≤ x ∧ x < last.hi) := by
  have hpieces : Stretch.pieces n (joined last first) =
      [⟨last.lo, n⟩, ⟨0, last.lo + (last.hi - last.lo + first.hi) - n⟩] := if_neg (by simp only [joined]; omega)
  rw [← inSpans_pieces (show (joined last first).first < n by simp only [joined]; omega)
    (show (joined last first).len ≤ n by simp only [joined]; omega) hx, hpieces]
  simp only [inSpans_cons, inSpans_nil, Bool.false_eq_true, or_false]
  omega

theorem inStretches_append (n x : Nat) (ts us : List Stretch) :
    InStretches n x (ts ++ us) ↔ InStretches n x ts ∨ InStretches n x us := by
  simp [InStretches, or_and_right, exists_or]

theorem inStretches_singleton (n x : Nat) (t : Stretch) :
    InStretches n x [t] ↔ ∃ k, k < t.len ∧ x = (t.first + k) % n := by
  simp [InStretches]

section
variable {n : Nat} {cov : List Span} (h : coverageWf n 0 cov = true)
include h

/-- The uncovered stretches hold the cells of the uncovered intervals. -/
theorem inStretches_uncovered {x : Nat} (hx : x < n) :
    InStretches n x (uncovered n cov) ↔ inSpans x (uncoveredSpans n cov) = true := by
  have hproper := proper_uncoveredSpans h
  obtain ⟨-, heq⟩ | ⟨first, mid, last, hspans, h0, hn, heq⟩ := uncovered_cases h
  · rw [heq, inStretches_map_stretch hproper]
  · have hwf := coverageWf_uncoveredSpans h
    rw [hspans] at hproper hwf
    have hapart : first.hi < last.lo := (List.pairwise_cons.mp (pairwise_of_coverageWf hwf)).1 last (by simp)
    rw [heq, hspans, inStretches_append, inStretches_singleton, inSpans_cons, inSpans_append, inSpans_cons, inSpans_nil,
      inStretches_map_stretch fun p hp => hproper p (by simp [hp]),
      mem_joined_iff hx h0 hn hapart (hproper first (by simp)).1 (hproper last (by simp)).1]
    tauto

/-- A cell is uncovered exactly where an uncovered stretch holds it (R85). -/
theorem inStretches_uncovered_iff {x : Nat} (hx : x < n) :
    InStretches n x (uncovered n cov) ↔ ¬ inSpans x cov = true :=
  (inStretches_uncovered h hx).trans (inSpans_uncoveredSpans h hx)

theorem uncovered_eq_nil_iff : uncovered n cov = [] ↔ uncoveredSpans n cov = [] := by
  obtain ⟨-, heq⟩ | ⟨first, mid, last, hspans, -, -, heq⟩ := uncovered_cases h
  · rw [heq, List.map_eq_nil_iff]
  · simp [heq, hspans]

end

/-! ### Each uncovered stretch is maximal (R85) -/

/-- A stretch that ends on both sides at covered cells, or is the whole loop, given with first cell 0. -/
structure Maximal (n : Nat) (cov : List Span) (t : Stretch) : Prop where
  first_lt : t.first < n
  len_pos : 0 < t.len
  len_le : t.len ≤ n
  whole : t.len = n → t.first = 0
  before : t.len < n → inSpans ((t.first + n - 1) % n) cov = true
  after : t.len < n → inSpans ((t.first + t.len) % n) cov = true

section
variable {n : Nat} {cov : List Span} (h : coverageWf n 0 cov = true)
include h

/-- A cell outside the uncovered intervals is covered. -/
theorem inSpans_of_not_uncovered {x : Nat} (hx : x < n) (hnot : ¬ inSpans x (uncoveredSpans n cov) = true) :
    inSpans x cov = true := not_not.mp (mt (inSpans_uncoveredSpans h hx).mpr hnot)

/-- The cell before an uncovered interval, which is the loop's last where the interval begins at 0. -/
theorem covered_before {p : Span} (hp : p ∈ uncoveredSpans n cov)
    (halone : p.lo = 0 → ∀ q ∈ uncoveredSpans n cov, q.hi ≠ n) : inSpans ((p.lo + n - 1) % n) cov = true := by
  have hwf := coverageWf_uncoveredSpans h
  obtain ⟨hlt, hle⟩ := proper_uncoveredSpans h p hp
  refine inSpans_of_not_uncovered h (Nat.mod_lt _ (by omega)) fun hin => ?_
  by_cases h0 : p.lo = 0
  · rw [h0, Nat.zero_add, Nat.mod_eq_of_lt (by omega)] at hin
    obtain ⟨q, hq, -, hhi⟩ := (inSpans_iff ..).mp hin
    have hqle := (proper_uncoveredSpans h q hq).2
    exact halone h0 q hq (by omega)
  · rw [show p.lo + n - 1 = p.lo - 1 + n by omega, Nat.add_mod_right, Nat.mod_eq_of_lt (by omega)] at hin
    exact (not_inSpans_beside hwf hp).1 (by omega) hin

/-- The cell after an uncovered interval, which is cell 0 where the interval ends at the end of the loop. -/
theorem covered_after {p : Span} (hp : p ∈ uncoveredSpans n cov)
    (halone : p.hi = n → ∀ q ∈ uncoveredSpans n cov, q.lo ≠ 0) : inSpans (p.hi % n) cov = true := by
  have hwf := coverageWf_uncoveredSpans h
  obtain ⟨hlt, hle⟩ := proper_uncoveredSpans h p hp
  refine inSpans_of_not_uncovered h (Nat.mod_lt _ (by omega)) fun hin => ?_
  by_cases hn : p.hi = n
  · rw [hn, Nat.mod_self] at hin
    obtain ⟨q, hq, hlo, -⟩ := (inSpans_iff ..).mp hin
    exact halone hn q hq (by omega)
  · rw [Nat.mod_eq_of_lt (by omega)] at hin
    exact (not_inSpans_beside hwf hp).2 hin

/-- An uncovered interval that meets no other across loop position 0 is a maximal stretch. -/
theorem maximal_stretch {p : Span} (hp : p ∈ uncoveredSpans n cov)
    (hfirst : p.lo = 0 → ∀ q ∈ uncoveredSpans n cov, q.hi = n → q = p)
    (hlast : p.hi = n → ∀ q ∈ uncoveredSpans n cov, q.lo = 0 → q = p) : Maximal n cov p.stretch := by
  obtain ⟨hlt, hle⟩ := proper_uncoveredSpans h p hp
  have hlen : p.stretch.len = p.hi - p.lo := rfl
  have hend : p.stretch.first + p.stretch.len = p.hi := by simp only [Span.stretch]; omega
  exact {
    first_lt := by simp only [Span.stretch]; omega
    len_pos := by omega
    len_le := by omega
    whole := fun hwhole => by simp only [Span.stretch]; omega
    before := fun hpart => covered_before h hp fun h0 q hq hn => by
      obtain rfl := hfirst h0 q hq hn
      omega
    after := fun hpart => hend ▸ covered_after h hp fun hn q hq h0 => by
      obtain rfl := hlast hn q hq h0
      omega }

theorem maximal_joined {first last : Span} (hf : first ∈ uncoveredSpans n cov) (hl : last ∈ uncoveredSpans n cov)
    (h0 : first.lo = 0) (hn : last.hi = n) (hapart : first.hi < last.lo) : Maximal n cov (joined last first) := by
  have hflt := (proper_uncoveredSpans h first hf).1
  have hllt := (proper_uncoveredSpans h last hl).1
  have hlen : (joined last first).len = last.hi - last.lo + first.hi := rfl
  have hend : ((joined last first).first + (joined last first).len) % n = first.hi % n := by
    rw [show (joined last first).first + (joined last first).len = first.hi + n by simp only [joined]; omega,
      Nat.add_mod_right]
  exact {
    first_lt := by simp only [joined]; omega
    len_pos := by omega
    len_le := by omega
    whole := fun hwhole => by omega
    before := fun _ => covered_before h hl fun hlo => by omega
    after := fun _ => hend ▸ covered_after h hf fun hhi => by omega }

theorem maximal_of_mem_uncovered {t : Stretch} (ht : t ∈ uncovered n cov) : Maximal n cov t := by
  obtain ⟨hmeets, heq⟩ | ⟨first, mid, last, hspans, h0, hn, heq⟩ := uncovered_cases h
  · rw [heq] at ht
    obtain ⟨p, hp, rfl⟩ := List.mem_map.mp ht
    exact maximal_stretch h hp (fun hlo q hq hhi => (hmeets p hp q hq hlo hhi).symm)
      fun hhi q hq hlo => hmeets q hq p hp hlo hhi
  · have hwf := coverageWf_uncoveredSpans h
    have hmem (p : Span) (hp : p ∈ first :: (mid ++ [last])) : p ∈ uncoveredSpans n cov := hspans ▸ hp
    rw [hspans] at hwf
    obtain ⟨hafter, htail⟩ := List.pairwise_cons.mp (pairwise_of_coverageWf hwf)
    obtain ⟨-, -, hbefore⟩ := List.pairwise_append.mp htail
    rw [heq] at ht
    obtain ht | ht := List.mem_append.mp ht
    · obtain ⟨p, hp, rfl⟩ := List.mem_map.mp ht
      have hfp := hafter p (by simp [hp])
      have hpl := hbefore p hp last (by simp)
      have hllt := (proper_of_coverageWf hwf last (by simp)).1
      exact maximal_stretch h (hmem p (by simp [hp])) (fun hlo => by omega) fun hhi => by omega
    · obtain rfl := List.mem_singleton.mp ht
      exact maximal_joined h (hmem first (by simp)) (hmem last (by simp)) h0 hn (hafter last (by simp))

theorem not_covered_of_mem {t : Stretch} (ht : t ∈ uncovered n cov) {k : Nat} (hk : k < t.len) :
    ¬ inSpans ((t.first + k) % n) cov = true := by
  have hn : 0 < n := by have := (maximal_of_mem_uncovered h ht).first_lt; omega
  exact (inStretches_uncovered_iff h (Nat.mod_lt _ hn)).mp ⟨t, ht, k, hk, rfl⟩

/-- A stretch that shares a cell with another does not begin within it: the cell before its first is covered. -/
theorem le_of_shared {t u : Stretch} (ht : t ∈ uncovered n cov) (hu : u ∈ uncovered n cov) (hpart : t.len < n)
    {j k : Nat} (hk : k < u.len) (hshare : (t.first + j) % n = (u.first + k) % n) : k ≤ j := by
  by_contra hlt
  have hbefore : (t.first + n - 1) % n = (u.first + (k - j - 1)) % n := by
    refine Nat.ModEq.add_right_cancel' (j + 1) ?_
    rw [show t.first + n - 1 + (j + 1) = t.first + j + n by omega,
      show u.first + (k - j - 1) + (j + 1) = u.first + k by omega]
    exact (Nat.add_mod_right ..).trans hshare
  have hcovered := (maximal_of_mem_uncovered h ht).before hpart
  rw [hbefore] at hcovered
  exact not_covered_of_mem h hu (by omega) hcovered

/-- A stretch ends no sooner than another with the same first cell: the cell after its last is covered. -/
theorem len_le_of_first_eq {t u : Stretch} (ht : t ∈ uncovered n cov) (hu : u ∈ uncovered n cov)
    (hfirst : t.first = u.first) : u.len ≤ t.len := by
  by_contra hlt
  have hle := (maximal_of_mem_uncovered h hu).len_le
  have hcovered := (maximal_of_mem_uncovered h ht).after (by omega)
  rw [hfirst] at hcovered
  exact not_covered_of_mem h hu (by omega) hcovered

/-- Where one stretch is the whole loop, every other is. -/
theorem whole_of_whole {t u : Stretch} (ht : t ∈ uncovered n cov) (hu : u ∈ uncovered n cov) (hwhole : t.len = n) :
    u.len = n := by
  have htm := maximal_of_mem_uncovered h ht
  have hum := maximal_of_mem_uncovered h hu
  by_contra hne
  have hlt := Nat.mod_lt (u.first + n - 1) (htm.len_pos.trans_eq hwhole)
  have hopen := not_covered_of_mem h ht (hlt.trans_eq hwhole.symm)
  rw [htm.whole hwhole, Nat.zero_add, Nat.mod_mod] at hopen
  exact hopen (hum.before (lt_of_le_of_ne hum.len_le hne))

/-- Two uncovered stretches that share a cell are one, and the cell has one place in it. -/
theorem eq_of_shared {t u : Stretch} (ht : t ∈ uncovered n cov) (hu : u ∈ uncovered n cov) {j k : Nat} (hj : j < t.len)
    (hk : k < u.len) (hshare : (t.first + j) % n = (u.first + k) % n) : t = u ∧ j = k := by
  have htm := maximal_of_mem_uncovered h ht
  have hum := maximal_of_mem_uncovered h hu
  have hfirst : t.first = u.first ∧ j = k := by
    by_cases hwhole : t.len = n
    · have huwhole := whole_of_whole h ht hu hwhole
      rw [htm.whole hwhole, hum.whole huwhole, Nat.zero_add, Nat.zero_add, Nat.mod_eq_of_lt (by omega),
        Nat.mod_eq_of_lt (by omega)] at hshare
      exact ⟨(htm.whole hwhole).trans (hum.whole huwhole).symm, hshare⟩
    · have hupart : u.len ≠ n := mt (whole_of_whole h hu ht) hwhole
      have hkj := le_of_shared h ht hu (lt_of_le_of_ne htm.len_le hwhole) hk hshare
      have hjk := le_of_shared h hu ht (lt_of_le_of_ne hum.len_le hupart) hj hshare.symm
      obtain rfl := Nat.le_antisymm hjk hkj
      exact ⟨Nat.ModEq.eq_of_lt_of_lt (Nat.ModEq.add_right_cancel' j hshare) htm.first_lt hum.first_lt, rfl⟩
  obtain ⟨hfirst, hplace⟩ := hfirst
  have hlen := Nat.le_antisymm (len_le_of_first_eq h hu ht hfirst.symm) (len_le_of_first_eq h ht hu hfirst)
  cases t
  cases u
  exact ⟨(Stretch.mk.injEq ..).mpr ⟨hfirst, hlen⟩, hplace⟩

end

/-- Settles O59: merging piece by piece for the credit; the uncovered intervals, the last joined with the first, for the
stretches, whose covered neighbours keep them apart. -/
theorem coverageListHoldsExactlyTheCutCells : Obligations.CoverageListHoldsExactlyTheCutCells := by
  unfold Obligations.CoverageListHoldsExactlyTheCutCells
  refine ⟨fun e0 dir n a1 a2 cov hwf hlt hle => creditList_spec e0 dir hwf hlt hle, fun n cov hwf hn => ?_⟩
  have hmax (t : Stretch) (ht : t ∈ uncovered n cov) := maximal_of_mem_uncovered hwf ht
  have hfull : fullCoverage n cov = true ↔ uncoveredSpans n cov = [] := List.isEmpty_iff
  refine ⟨fun x hx => ?cells, hfull.trans (uncoveredSpans_eq_nil_iff hwf), (uncovered_eq_nil_iff hwf).trans hfull.symm,
    fun t ht => ⟨(hmax t ht).first_lt, (hmax t ht).len_pos, (hmax t ht).len_le⟩,
    fun t ht u hu j k hj hk => eq_of_shared hwf ht hu hj hk,
    fun t ht hpart => ⟨(hmax t ht).before hpart, (hmax t ht).after hpart⟩, uncovered_firsts_pairwise hwf⟩
  case cells =>
    rw [← Bool.not_eq_true]
    exact (inStretches_uncovered_iff hwf hx).symm

end Sys2Proof.CoverageTabs
end

section
/-! SUPPORT. The remnant test (R96): which cells a stretch shares with a tab, counted from the stretch's first cell. -/

namespace Sys2Proof.Remnants

open Sys2Proof.Machine

/-! ### Shared cells -/

/-- Cell k of the stretch, counted from its first, is a cell of the tab. -/
def SharedAt (n : Nat) (t tab : Stretch) (k : Nat) : Prop :=
  ∃ j, j < tab.len ∧ (t.first + k) % n = (tab.first + j) % n

/-- How many cells after the first cell of a stretch the first cell of a tab comes in loop order. -/
def tabOffset (n : Nat) (t tab : Stretch) : Nat := (tab.first + n - t.first) % n

theorem tabOffset_lt {n : Nat} (t tab : Stretch) (hn : 0 < n) : tabOffset n t tab < n := Nat.mod_lt _ hn

theorem first_add_tabOffset {n : Nat} {t tab : Stretch} (ht : t.first < n) :
    t.first + tabOffset n t tab ≡ tab.first [MOD n] :=
  calc t.first + tabOffset n t tab
      ≡ t.first + (tab.first + n - t.first) [MOD n] := (Nat.mod_modEq ..).add_left _
    _ = tab.first + n := by omega
    _ ≡ tab.first [MOD n] := Nat.add_mod_right ..

/-- Cell k of the stretch is a cell of the tab where the tab, counted from the stretch's first cell, holds place k, or
place k of the next time round. -/
theorem sharedAt_iff {n k : Nat} {t tab : Stretch} (ht : t.first < n) (htab : tab.len ≤ n) (hk : k < n) :
    SharedAt n t tab k ↔
      (tabOffset n t tab ≤ k ∧ k < tabOffset n t tab + tab.len) ∨ k + n < tabOffset n t tab + tab.len := by
  have hoff := tabOffset_lt t tab (show 0 < n by omega)
  have hfirst (j : Nat) : (t.first + k) % n = (tab.first + j) % n ↔ k ≡ tabOffset n t tab + j [MOD n] := by
    have hj : t.first + (tabOffset n t tab + j) ≡ tab.first + j [MOD n] := by
      rw [← add_assoc]
      exact (first_add_tabOffset ht).add_right j
    exact ⟨fun h => Nat.ModEq.add_left_cancel' t.first (Nat.ModEq.trans h hj.symm),
      fun h => (h.add_left t.first).trans hj⟩
  simp only [SharedAt, hfirst]
  generalize tabOffset n t tab = off at hoff
  constructor
  · rintro ⟨j, hj, hmod⟩
    by_cases hround : off + j < n
    · have := hmod.eq_of_lt_of_lt hk hround
      omega
    · have hnext : off + j = off + j - n + n := by omega
      rw [hnext] at hmod
      have := (hmod.trans (Nat.add_mod_right ..)).eq_of_lt_of_lt hk (by omega)
      omega
  · rintro (⟨hlo, hhi⟩ | hnext)
    · exact ⟨k - off, by omega, by rw [Nat.add_sub_cancel' hlo]⟩
    · refine ⟨k + n - off, by omega, ?_⟩
      rw [Nat.add_sub_cancel' (by omega)]
      exact (Nat.add_mod_right ..).symm

/-! ### The cells beyond the tab (R96) -/

section
variable {n : Nat} {t tab : Stretch}

theorem beyond_of_apart (hhead : ¬ tabOffset n t tab < t.len) (htail : ¬ n < tabOffset n t tab + tab.len) :
    beyond n t tab = none := by
  simp only [tabOffset] at hhead htail
  simp only [beyond, hhead, htail, decide_false]

theorem beyond_of_head (hhead : tabOffset n t tab < t.len) (htail : ¬ n < tabOffset n t tab + tab.len) :
    beyond n t tab = some (tabOffset n t tab, t.len - (tabOffset n t tab + tab.len)) := by
  simp only [tabOffset] at hhead htail ⊢
  simp only [beyond, hhead, htail, decide_true, decide_false]

theorem beyond_of_tail (hhead : ¬ tabOffset n t tab < t.len) (htail : n < tabOffset n t tab + tab.len) :
    beyond n t tab = some (0, t.len - (tabOffset n t tab + tab.len - n)) := by
  simp only [tabOffset] at hhead htail ⊢
  simp only [beyond, hhead, htail, decide_true, decide_false]

theorem beyond_of_both (hhead : tabOffset n t tab < t.len) (htail : n < tabOffset n t tab + tab.len) :
    beyond n t tab = some (n - tab.len, n - tab.len) := by
  simp only [tabOffset] at hhead htail
  simp only [beyond, hhead, htail, decide_true]

end

/-- One protected tab is enough (R96). -/
theorem isRemnant_iff_exists (n lead : Nat) (tabs : List Stretch) (t : Stretch) :
    isRemnant n lead tabs t = true ↔ ∃ tab ∈ tabs, isRemnant n lead [tab] t = true := by
  simp only [isRemnant, List.any_eq_true, List.mem_singleton, exists_eq_left]

theorem isRemnant_of_beyond_none {n lead : Nat} {t tab : Stretch} (h : beyond n t tab = none) :
    isRemnant n lead [tab] t = false := by
  simp [isRemnant, h]

theorem isRemnant_of_beyond_some {n lead before after : Nat} {t tab : Stretch}
    (h : beyond n t tab = some (before, after)) :
    isRemnant n lead [tab] t = true ↔ before ≤ lead ∧ after ≤ lead := by
  simp [isRemnant, h]

section
variable {n : Nat} (lead : Nat) {t tab : Stretch} (ht : t.first < n) (htpos : 0 < t.len) (htlen : t.len ≤ n)
  (htabpos : 0 < tab.len) (htablen : tab.len ≤ n)
include ht htpos htlen htabpos htablen

/-- Without a shared cell the tab begins after the stretch and ends before it comes round. -/
theorem isRemnant_of_not_shared
    (hnone : ∀ k, k < t.len → ¬ SharedAt n t tab k) : isRemnant n lead [tab] t = false := by
  have hplace (k : Nat) (hk : k < t.len) := mt (sharedAt_iff ht htablen (hk.trans_le htlen)).mpr (hnone k hk)
  have hhead : ¬ tabOffset n t tab < t.len := fun hlt => hplace _ hlt (.inl (by omega))
  have htail : ¬ n < tabOffset n t tab + tab.len := fun hlt => hplace 0 htpos (.inr (by omega))
  exact isRemnant_of_beyond_none (beyond_of_apart hhead htail)

/-- Where the shared cells are those from p to q - 1, the cells before p and from q on lie beyond the tab: it begins in
the stretch, or it comes round into it; where it does both it is the whole loop. -/
theorem isRemnant_iff_of_shared_run {p q : Nat} (hpq : p < q) (hq : q ≤ t.len)
    (hrun : ∀ k, k < t.len → (SharedAt n t tab k ↔ p ≤ k ∧ k < q)) :
    isRemnant n lead [tab] t = true ↔ p ≤ lead ∧ t.len - q ≤ lead := by
  have hplace (k : Nat) (hk : k < t.len) := (sharedAt_iff ht htablen (hk.trans_le htlen)).symm.trans (hrun k hk)
  have hoff := tabOffset_lt t tab (show 0 < n by omega)
  have hp := hplace p (by omega)
  have hlast := hplace (q - 1) (by omega)
  by_cases hhead : tabOffset n t tab < t.len <;> by_cases htail : n < tabOffset n t tab + tab.len
  · have hfirst := hplace 0 htpos
    have hend := hplace (t.len - 1) (by omega)
    have hgap := hplace (tabOffset n t tab - 1) (by omega)
    have hwhole : p = 0 ∧ q = t.len ∧ n - tab.len = 0 := by omega
    rw [isRemnant_of_beyond_some (beyond_of_both hhead htail)]
    omega
  · have hhere := hplace _ hhead
    have hplaces : p = tabOffset n t tab ∧ t.len - q = t.len - (tabOffset n t tab + tab.len) := by
      obtain rfl | hq' := hq.eq_or_lt
      · omega
      · have hnext := hplace q hq'
        omega
    rw [isRemnant_of_beyond_some (beyond_of_head hhead htail), ← hplaces.2, ← hplaces.1]
  · have hfirst := hplace 0 htpos
    have hplaces : p = 0 ∧ t.len - q = t.len - (tabOffset n t tab + tab.len - n) := by
      obtain rfl | hq' := hq.eq_or_lt
      · omega
      · have hnext := hplace q hq'
        omega
    rw [isRemnant_of_beyond_some (beyond_of_tail hhead htail), hplaces.1, ← hplaces.2]
  · omega

omit htabpos in
/-- Where the stretch meets the tab at both ends, the loop less the tab counts on each side (log 18). -/
theorem isRemnant_iff_of_shared_ends {p q : Nat} (hp : 0 < p) (hpq : p < q) (hq : q < t.len)
    (hends : ∀ k, k < t.len → (SharedAt n t tab k ↔ k < p ∨ q ≤ k)) :
    isRemnant n lead [tab] t = true ↔ n - tab.len ≤ lead := by
  have hplace (k : Nat) (hk : k < t.len) := (sharedAt_iff ht htablen (hk.trans_le htlen)).symm.trans (hends k hk)
  have hoff := tabOffset_lt t tab (show 0 < n by omega)
  have hfirst := hplace 0 htpos
  have hbetween := hplace p (by omega)
  have hlast := hplace (t.len - 1) (by omega)
  have hboth : tabOffset n t tab < t.len ∧ n < tabOffset n t tab + tab.len := by omega
  rw [isRemnant_of_beyond_some (beyond_of_both hboth.1 hboth.2), and_self_iff]

end

/-! ### The shortest remnant (R96) -/

theorem least_eq_min? (ns : List Nat) : least ns = ns.min? := by
  induction ns with
  | nil => rfl
  | cons n rest ih =>
    rw [least, ih, List.min?_cons]
    cases rest.min? <;> rfl

theorem least_eq_some_iff (ns : List Nat) (n : Nat) :
    least ns = some n ↔ n ∈ ns ∧ ∀ m ∈ ns, n ≤ m := by
  rw [least_eq_min?, List.min?_eq_some_iff]

/-- The shortest remnant length is the least of the lengths of the uncovered stretches that are remnants. -/
theorem shortest_eq_some_iff (c : Contour) (lead n : Nat) :
    let remnant (t : Stretch) : Prop :=
      t ∈ uncovered c.g.loopLen c.lv.coverage ∧ isRemnant c.g.loopLen lead c.protectedTabs t = true
    (c.answers lead).shortest = some n ↔ (∃ t, remnant t ∧ t.len = n) ∧ ∀ t, remnant t → n ≤ t.len := by
  intro remnant
  have hmem (m : Nat) : m ∈ ((uncovered c.g.loopLen c.lv.coverage).filter
      (isRemnant c.g.loopLen lead c.protectedTabs)).map (·.len) ↔ ∃ t, remnant t ∧ t.len = m := by
    simp only [List.mem_map, List.mem_filter, remnant]
  refine (least_eq_some_iff ..).trans (and_congr (hmem n) ?_)
  exact ⟨fun hall t ht => hall _ ((hmem _).mpr ⟨t, ht, rfl⟩), fun hall m hm => by
    obtain ⟨t, ht, rfl⟩ := (hmem m).mp hm
    exact hall t ht⟩

/-- Settles O45: the shared cells place the tab along the stretch, and its place decides the cells beyond it. -/
theorem remnantTestCountsCellsBeyondTheTab : Obligations.RemnantTestCountsCellsBeyondTheTab := by
  unfold Obligations.RemnantTestCountsCellsBeyondTheTab
  refine ⟨fun n lead t tab ht htpos htlen _ htabpos htablen => ⟨?apart, ?run, ?ends⟩, isRemnant_iff_exists,
    shortest_eq_some_iff⟩
  case apart => exact isRemnant_of_not_shared lead ht htpos htlen htabpos htablen
  case run => exact fun p q hpq hq => isRemnant_iff_of_shared_run lead ht htpos htlen htabpos htablen hpq hq
  case ends => exact fun p q hp hpq hq => isRemnant_iff_of_shared_ends lead ht htpos htlen htablen hp hpq hq

end Sys2Proof.Remnants
end

section
/-! SUPPORT. The Gap Monitor (chapter 6): FAULT_CLEAR, what a pulse on SPARK_IN counts and when it latches a violation,
and what the end of a window records, identifies and judges. -/

namespace Sys2Proof.GapMonitoring

open Sys2Proof.Machine Sys2Proof.Safety Sys2Proof.AxisPosition Sys2Proof.Runs

/-! ### FAULT_CLEAR (R110) -/

theorem exec_faultClear (tag : Byte) {s : State} (h : Serves .cell .faultClear s) :
    exec (.faultClear tag []) s = .next (finish .cell Req.faultClear.code tag (faultClear () s)) :=
  congrArg Host.Outcome.next (serve_of_serves tag [] (parseNone []) () faultClear h rfl)

/-- Settles O46: the reply carries the latch and the stray count before the request. -/
theorem faultClearClearsViolation : Obligations.FaultClearClearsViolation := by
  unfold Obligations.FaultClearClearsViolation
  intro tag s h
  rw [exec_faultClear tag h, faultClear, finish_accepted]
  rfl

/-! ### What a halt cause leaves of the run and of the presence flag (R40, R73, R74) -/

/-- A halt cause writes the phase and the halt of the run record at most. -/
theorem arise_run (cause : Causes) {s : State} {run : Run} (hrun : s.run = some run) :
    ∃ phase halt, (arise cause s).run = some { run with phase := phase, halt := halt } := by
  cases hp : run.phase.tracking with
  | true => exact ⟨_, _, by rw [arise_of_tracking _ hrun hp, haltRun_run _ hrun]⟩
  | false =>
    obtain hp | hw := halted_or_waiting_of_not_tracking hp
    · cases hh : run.halt with
      | none =>
        have hsame : arise cause s = s := by simp [arise, hrun, hp, hh, Phase.tracking]
        exact ⟨run.phase, run.halt, by rw [hsame, hrun]⟩
      | some h =>
        rw [arise_of_halted cause hrun hp hh]
        split
        · exact ⟨run.phase, run.halt, hrun⟩
        · exact ⟨run.phase, _, rfl⟩
    · exact ⟨run.phase, run.halt, by rw [arise_of_waiting _ hrun hw, hrun]⟩

/-- A presence flag that is set stays set: an abandoned sample gives back what it read (R40). -/
theorem arise_presence_of_set (cause : Causes) {s : State} (h : s.gap.presence = true) :
    (arise cause s).gap.presence = true := by
  obtain he | ⟨run, hrun, -, he⟩ | ⟨r, e, -, he⟩ := arise_cases cause s
  · rw [he, h]
  · rw [he]
    cases hs : s.sampling <;>
      simp [haltRun, hrun, abandonSample, hs, setPhase, Phase.judged, ineligible, State.modGap, h]
  · rw [he]
    exact h

/-! ### Permits after a change (R108, R144) -/

/-- SPARK_OK that does not rise leaves the stray count. -/
theorem drive_gap_of_no_rise {s : State} (h : s.sparkOk = false → s.sparkCond = false) : (drive s).gap = s.gap := by
  have hstray : (if !s.sparkOk && s.sparkCond then 0 else s.gap.stray) = s.gap.stray := by
    cases hok : s.sparkOk with
    | true => rfl
    | false => simp [h hok]
  exact congrArg (fun n => { s.gap with stray := n }) hstray

theorem drive_contour? (s : State) (i : Nat) : (drive s).contour? i = s.contour? i := rfl

/-- A violation holds SPARK_OK low. -/
theorem sparkCond_of_violation {s : State} (h : s.gap.violation = true) : s.sparkCond = false := by
  simp [State.sparkCond, h]

/-! ### SPARK_IN_PULSE (R99, R100, R104, R108, R109) -/

theorem exec_sparkInPulse (s : State) : exec .sparkInPulse s = .next (sparkInPulse s) := rfl

/-- An interval below its limit is measured (R99, R100). -/
theorem pulsed_of_measured {g : Gap} (h : g.interval ≠ 65535) :
    g.pulsed.m = min 65535 (g.m + 1) ∧ g.pulsed.sum = min 4294967295 (g.sum + g.interval) := by
  simp [Gap.pulsed, max16, max32, satInc, satAdd, h]

theorem pulsed_of_unmeasured {g : Gap} (h : g.interval = 65535) : g.pulsed.m = g.m ∧ g.pulsed.sum = g.sum := by
  simp [Gap.pulsed, max16, h]

/-- The stray count after a pulse (R108). -/
def strayAfter (s : State) : Nat := if s.sparkOk then s.gap.stray else min 65535 (s.gap.stray + 1)

/-- The latch after a pulse (R108, R109). -/
def latchedAfter (s : State) : Bool := s.gap.violation || (!s.sparkOk && decide (s.cfg.strayLimit < strayAfter s))

/-- The pulse sets the latch: it was clear before. -/
def latches (s : State) : Bool := !s.gap.violation && latchedAfter s

theorem latchedAfter_of_latches {s : State} (h : latches s = true) : latchedAfter s = true := by
  rw [latches, Bool.and_eq_true] at h
  exact h.2

theorem latches_eq_false_iff (s : State) : latches s = false ↔ latchedAfter s = s.gap.violation := by
  rw [latches, latchedAfter]
  cases s.gap.violation <;> simp

/-- The halt cause VIOLATION alone. -/
def violationCause : Causes := ⟨false, false, false, false, true⟩

/-- The latch set and VIOLATION posted, with the stray count, the run's number and phase, the device state (R109). -/
def violationPosted (s : State) : State :=
  post (.violation s.gap.stray (s.run.map (fun r => (r.number, r.phase))) s.device)
    (s.modGap (fun g => { g with violation := true }))

@[simp] theorem violationPosted_run (s : State) : (violationPosted s).run = s.run := rfl

theorem kept_violationPosted (s : State) : Kept s (violationPosted s) := kept_post _ (s.modGap _)

/-- The state with the stray count after the pulse. -/
def strayed (s : State) : State := s.modGap (fun g => { g with stray := strayAfter s })

theorem strayTest_eq (s : State) :
    strayTest s = if latches s then arise violationCause (violationPosted (strayed s)) else strayed s := by
  cases hok : s.sparkOk with
  | true =>
    have hnot : ¬ latches s = true := by simp [latches, latchedAfter, hok]
    have hcount : strayAfter s = s.gap.stray := if_pos hok
    have hsame : strayed s = s := by rw [strayed, hcount]; rfl
    rw [if_neg hnot, hsame, strayTest, if_pos hok]
  | false =>
    have hstray : s.modGap (fun g => { g with stray := satInc max16 g.stray }) = strayed s := by
      simp [strayed, strayAfter, hok, satInc, max16, State.modGap]
    have hlatch : (!s.gap.violation && decide (s.cfg.strayLimit < (strayed s).gap.stray)) = latches s := by
      rw [latches, latchedAfter, hok]
      cases s.gap.violation <;> rfl
    simp only [strayTest, hok, hstray, hlatch]
    rfl

/-- The run record with the pulse counted (R104). -/
def charged (run : Run) : Run := { run with discharges := min 4294967295 (run.discharges + 1) }

/-- The state with the pulse counted: its interval, window, presence and totals, and the stray count. -/
def counted (s : State) : State := strayed (countDischarge (s.modGap Gap.pulsed))

theorem counted_of_no_run {s : State} (h : s.run = none) :
    counted s = { s with gap := { s.gap.pulsed with stray := strayAfter s } } := by
  have hnone : (s.modGap Gap.pulsed).run = none := h
  rw [counted, countDischarge, hnone]
  rfl

theorem counted_of_run {s : State} {run : Run} (h : s.run = some run) :
    counted s = { s.modLive run.contour (fun v => { v with discharges := min 4294967295 (v.discharges + 1) }) with
      run := some (charged run)
      trace := { s.trace with tally := min 255 (s.trace.tally + 1) }
      gap := { s.gap.pulsed with stray := strayAfter s } } := by
  have hsome : (s.modGap Gap.pulsed).run = some run := h
  rw [counted, countDischarge, hsome]
  rfl

/-- Counting a pulse writes the contours, the run, the trace and the Gap Monitor at most. -/
theorem counted_eq (s : State) :
    ∃ contours r trace, counted s = { s with
      plate := { s.plate with contours := contours }, run := r, trace := trace
      gap := { s.gap.pulsed with stray := strayAfter s } } := by
  cases h : s.run with
  | none => exact ⟨s.plate.contours, none, s.trace, by rw [counted_of_no_run h, ← h]⟩
  | some run => exact ⟨_, _, _, counted_of_run h⟩

/-- A pulse changes no condition of SPARK_OK but the latch. -/
theorem counted_sparkCond (s : State) : (counted s).sparkCond = s.sparkCond := by
  cases h : s.run with
  | none => simp [counted_of_no_run h, State.sparkCond, h, Gap.pulsed]
  | some run => simp [counted_of_run h, State.sparkCond, h, Gap.pulsed, charged]

/-- The state after a pulse, before the outputs follow. -/
def tested (s : State) : State :=
  if latches s then arise violationCause (violationPosted (counted s)) else counted s

theorem tested_of_latches {s : State} (h : latches s = true) :
    tested s = arise violationCause (violationPosted (counted s)) := if_pos h

theorem tested_of_not_latches {s : State} (h : latches s = false) : tested s = counted s := if_neg (by simp [h])

theorem sparkInPulse_eq_drive {s : State} (h : s.resetLow = false) : sparkInPulse s = drive (tested s) := by
  have hsame : latches (countDischarge (s.modGap Gap.pulsed)) = latches s := by
    rw [countDischarge]
    split <;> rfl
  rw [sparkInPulse, if_neg (by simp [h]), strayTest_eq, hsame]
  rfl

/-- All that a pulse writes before the outputs follow. -/
theorem tested_eq (s : State) :
    ∃ contours r trace sampling eligible m t c, tested s = { s with
      plate := { s.plate with contours := contours }, run := r, trace := trace, sampling := sampling
      gap := { s.gap.pulsed with stray := strayAfter s, violation := latchedAfter s, eligible := eligible }
      motion := m, thread := t, cell := c } := by
  obtain ⟨contours, r, trace, hcounted⟩ := counted_eq s
  cases h : latches s with
  | false =>
    refine ⟨contours, r, trace, s.sampling, s.gap.eligible, s.motion, s.thread, s.cell, ?_⟩
    rw [tested_of_not_latches h, hcounted, (latches_eq_false_iff s).mp h]
    rfl
  | true =>
    have hset : (violationPosted (counted s)).gap.presence = true := by rw [hcounted]; rfl
    have hkept := arise_presence_of_set violationCause hset
    obtain ⟨r', sampling, presence, eligible, m, t, c, harisen⟩ :=
      arise_eq violationCause (violationPosted (counted s))
    obtain rfl : presence = true := by rwa [harisen] at hkept
    refine ⟨contours, r', trace, sampling, eligible, m, t, c, ?_⟩
    rw [tested_of_latches h, harisen, hcounted, latchedAfter_of_latches h]
    rfl

theorem tested_plate (s : State) : (tested s).plate = (counted s).plate := by
  cases h : latches s with
  | false => rw [tested_of_not_latches h]
  | true => rw [tested_of_latches h, arise_plate]; rfl

theorem tested_trace (s : State) : (tested s).trace = (counted s).trace := by
  cases h : latches s with
  | false => rw [tested_of_not_latches h]
  | true => rw [tested_of_latches h, arise_trace]; rfl

theorem kept_tested (s : State) : Kept s (tested s) := by
  have hcounted : Kept s (counted s) := by
    obtain ⟨_, _, _, h⟩ := counted_eq s
    rw [h]
    exact kept_refl s
  cases h : latches s with
  | false => rwa [tested_of_not_latches h]
  | true =>
    rw [tested_of_latches h]
    exact kept_trans hcounted (kept_trans (kept_violationPosted _) (kept_arise _ _))

/-- SPARK_OK does not rise at a pulse, so the stray count stays as counted (R108, R144). -/
theorem drive_tested_gap {s : State} (hd : Driven s) : (drive (tested s)).gap = (tested s).gap := by
  obtain ⟨hspark, -, -⟩ := hd
  refine drive_gap_of_no_rise fun hlow => ?_
  cases h : latches s with
  | false =>
    rw [tested_of_not_latches h] at hlow ⊢
    obtain ⟨_, _, _, hcounted⟩ := counted_eq s
    rw [counted_sparkCond, ← hspark]
    rwa [hcounted] at hlow
  | true =>
    obtain ⟨_, _, _, _, _, _, _, _, htested⟩ := tested_eq s
    apply sparkCond_of_violation
    rw [htested]
    exact latchedAfter_of_latches h

/-- VIOLATION stands on every link once the latch is set, with the count and the run's number (R109). -/
theorem get?_raw_tested_violation {s : State} (h : latches s = true) (l : Link) :
    ∃ run, Table.get? ((tested s).link l).raw 10 = some (.violation (strayAfter s) run s.device) ∧
      run.map (·.1) = s.run.map (·.number) := by
  have hr : (routed l).getLsbD 10 = true := by cases l <;> decide
  refine ⟨(counted s).run.map (fun r => (r.number, r.phase)), ?posted, ?number⟩
  case posted =>
    rw [tested_of_latches h, get?_raw_arise _ _ _ (by decide) (by decide)]
    obtain ⟨_, _, _, hcounted⟩ := counted_eq s
    refine (get?_raw_post_same (.violation ..) _ hr (by simp [Event.bit])).trans ?_
    rw [hcounted]
  case number =>
    cases hrun : s.run with
    | none => rw [counted_of_no_run hrun, hrun]; rfl
    | some run => rw [counted_of_run hrun]; rfl

theorem tested_run_of_none {s : State} (hrun : s.run = none) : (tested s).run = none := by
  have hcounted : (counted s).run = none := by rw [counted_of_no_run hrun, hrun]
  have hposted : (violationPosted (counted s)).run = none := by rw [violationPosted_run, hcounted]
  cases h : latches s with
  | false => rw [tested_of_not_latches h, hcounted]
  | true => rw [tested_of_latches h, arise_of_no_run _ hposted, hposted]

section
variable {s : State} {run : Run} (hrun : s.run = some run)
include hrun

theorem counted_run : (counted s).run = some (charged run) := by rw [counted_of_run hrun]

/-- A pulse charges the run; where it latches a violation, a run in one of the four phases is halted (R73, R109). -/
theorem tested_run : ∃ phase halt, (tested s).run = some { charged run with phase := phase, halt := halt } ∧
    (latches s = false → phase = run.phase ∧ halt = run.halt) ∧
    (latches s = true → run.phase.tracking = true →
      phase = .halted ∧ halt = some ⟨violationCause, run.phase⟩) := by
  have hposted : (violationPosted (counted s)).run = some (charged run) := by
    rw [violationPosted_run, counted_run hrun]
  cases h : latches s with
  | false =>
    exact ⟨run.phase, run.halt, by rw [tested_of_not_latches h, counted_run hrun]; rfl, fun _ => ⟨rfl, rfl⟩, nofun⟩
  | true =>
    rw [tested_of_latches h]
    cases hp : run.phase.tracking with
    | true =>
      exact ⟨.halted, _, by rw [arise_of_tracking _ hposted hp, haltRun_run _ hposted]; rfl, nofun,
        fun _ _ => ⟨rfl, rfl⟩⟩
    | false =>
      obtain ⟨phase, halt, harisen⟩ := arise_run violationCause hposted
      exact ⟨phase, halt, harisen, nofun, nofun⟩

/-- The total of the run's contour counts the pulse (R104). -/
theorem tested_contour?_same {c : Contour} {v : ContourLive} (hc : s.contour? run.contour = some c)
    (hv : c.live = some v) : (tested s).contour? run.contour =
      some { c with live := some { v with discharges := min 4294967295 (v.discharges + 1) } } := by
  rw [State.contour?, tested_plate, counted_of_run hrun]
  refine (contour?_modLive_same s run.contour _).trans ?_
  rw [hc, Option.map_some, hv]
  rfl

theorem tested_contour?_other {i : Nat} (h : i ≠ run.contour) : (tested s).contour? i = s.contour? i := by
  rw [State.contour?, tested_plate, counted_of_run hrun]
  exact contour?_modLive_other s _ h

end

/-- A pulse with no run open counts toward no contour and no trace record (R104). -/
theorem tested_of_no_run {s : State} (hrun : s.run = none) :
    (tested s).trace = s.trace ∧ (tested s).plate = s.plate := by
  have hcounted := counted_of_no_run hrun
  exact ⟨by rw [tested_trace, hcounted], by rw [tested_plate, hcounted]⟩

/-- Settles O47: the pulse is counted first, and a stray that passes the limit then latches a violation. -/
theorem sparkInPulseCounts : Obligations.SparkInPulseCounts := by
  unfold Obligations.SparkInPulseCounts
  intro s hr hd stray latched
  have hexec : exec .sparkInPulse s = .next (drive (tested s)) := by rw [exec_sparkInPulse, sparkInPulse_eq_drive hr]
  obtain ⟨contours, r, trace, sampling, eligible, m, t, c, htested⟩ := tested_eq s
  have hgap : (drive (tested s)).gap =
      { s.gap.pulsed with stray := stray, violation := latched, eligible := eligible } := by
    rw [drive_tested_gap hd, htested]
    rfl
  have hlatches (hclear : s.gap.violation = false) (hset : latched = true) : latches s = true := by
    rw [latches, hclear]
    exact hset
  refine ⟨drive (tested s), hexec, by rw [hgap]; rfl, by rw [hgap]; rfl, fun h => ?measured, fun h => ?unmeasured,
    by rw [hgap]; rfl, by rw [hgap]; rfl, by rw [hgap], by rw [hgap], fun hclear hset l => ?posted, fun hrun => ?idle,
    fun run hrun => ?run, ?kept⟩
  case measured => rw [hgap]; exact pulsed_of_measured h
  case unmeasured => rw [hgap]; exact pulsed_of_unmeasured h
  case posted =>
    rw [drive_raw]
    exact get?_raw_tested_violation (hlatches hclear hset) l
  case idle =>
    rw [drive_run, drive_trace, drive_plate]
    exact ⟨tested_run_of_none hrun, tested_of_no_run hrun⟩
  case run =>
    obtain ⟨phase, halt, hcharged, hstays, hhalts⟩ := tested_run hrun
    have htally : (tested s).trace = { s.trace with tally := min 255 (s.trace.tally + 1) } := by
      rw [tested_trace, counted_of_run hrun]
    simp only [drive_run, drive_trace, drive_contour?]
    exact ⟨_, hcharged, rfl, rfl, rfl, rfl, rfl, rfl, rfl, htally, fun c v hc hv => tested_contour?_same hrun hc hv,
      fun i hi => tested_contour?_other hrun hi, fun hsame => hstays ((latches_eq_false_iff s).mpr hsame),
      fun hclear hset hp => hhalts (hlatches hclear hset) hp⟩
  case kept =>
    have hkept : Kept s (drive (tested s)) := kept_trans (kept_tested s) (kept_drive _)
    have hsetup : SetupKept s (drive (tested s)) := by rw [htested]; exact ⟨rfl, rfl, rfl⟩
    have hhistory : HistoryKept s (drive (tested s)) := by rw [htested]; exact ⟨rfl, rfl⟩
    exact ⟨by rw [htested]; rfl, by rw [htested]; rfl, by rw [htested]; rfl, by rw [htested]; rfl, hsetup, hhistory,
      hkept⟩

/-! ### The identified setting (R101) -/

/-- A setting's centre is not 0 and its band holds the mean (R101). -/
def bandHolds (mean : Nat) (e : Nat × Nat) : Bool := decide (e.1 ≠ 0 ∧ ((mean : Int) - e.1).natAbs ≤ e.2)

/-- The setting of an index is in the table and its band holds the mean. -/
def Fits (mean : Nat) (table : List (Nat × Nat)) (i : Nat) : Prop :=
  ∃ e, table[i]? = some e ∧ e.1 ≠ 0 ∧ ((mean : Int) - e.1).natAbs ≤ e.2

theorem fits_iff {mean : Nat} {table : List (Nat × Nat)} {i : Nat} :
    Fits mean table i ↔ ∃ h : i < table.length, bandHolds mean table[i] = true := by
  simp [Fits, bandHolds, List.getElem?_eq_some_iff]

/-- The setting identified is the first whose band holds the mean. -/
theorem identify_eq_findIdx? (mean i : Nat) (table : List (Nat × Nat)) :
    identify mean i table = ((table.findIdx? (bandHolds mean)).map (fun k => Ident.setting (k + i))).getD .unknown := by
  induction table generalizing i with
  | nil => rfl
  | cons e rest ih =>
    rw [identify, List.findIdx?_cons]
    by_cases h : e.1 ≠ 0 ∧ ((mean : Int) - e.1).natAbs ≤ e.2
    · simp [bandHolds, h]
    · rw [if_neg h, ih, if_neg (by simpa [bandHolds] using h), Option.map_map]
      simp [Function.comp_def, Nat.add_assoc, Nat.add_comm 1 i]

theorem identify_eq_setting_iff (mean : Nat) (table : List (Nat × Nat)) (i : Nat) :
    identify mean 0 table = .setting i ↔ Fits mean table i ∧ ∀ j, j < i → ¬ Fits mean table j := by
  have hfind : identify mean 0 table = .setting i ↔ table.findIdx? (bandHolds mean) = some i := by
    rw [identify_eq_findIdx?]
    cases table.findIdx? (bandHolds mean) <;> simp
  rw [hfind, List.findIdx?_eq_some_iff_getElem]
  constructor
  · rintro ⟨hlen, hhere, hbelow⟩
    refine ⟨fits_iff.mpr ⟨hlen, hhere⟩, fun j hj hfits => ?_⟩
    obtain ⟨_, hholds⟩ := fits_iff.mp hfits
    exact hbelow j hj hholds
  · rintro ⟨hfits, hbelow⟩
    obtain ⟨hlen, hhere⟩ := fits_iff.mp hfits
    exact ⟨hlen, hhere, fun j hj hholds => hbelow j hj (fits_iff.mpr ⟨hj.trans hlen, hholds⟩)⟩

theorem identify_eq_unknown_iff (mean : Nat) (table : List (Nat × Nat)) :
    identify mean 0 table = .unknown ↔ ∀ i, ¬ Fits mean table i := by
  have hfind : identify mean 0 table = .unknown ↔ table.findIdx? (bandHolds mean) = none := by
    rw [identify_eq_findIdx?]
    cases table.findIdx? (bandHolds mean) <;> simp
  simp only [hfind, List.findIdx?_eq_none_iff, fits_iff, List.forall_mem_iff_getElem, not_exists, Bool.not_eq_true]

/-! ### The mismatch counter (R103) -/

/-- The halt cause SETTING alone. -/
def settingCause : Causes := ⟨false, false, true, false, false⟩

/-- The mismatch counter after a window (R103; a counter at its limit: log 39). -/
def mismatchAfter (w : WindowRecord) (run : Run) (s : State) : Nat :=
  if (w.eligible && w.judges) = true then
    if s.gap.ident = some (.setting run.expected) then 0
    else if s.gap.mismatch < s.cfg.mismatchLimit then s.gap.mismatch + 1 else s.gap.mismatch
  else s.gap.mismatch

/-- A window brings the mismatch counter to its limit (R103). -/
def ReachesLimit (w : WindowRecord) (run : Run) (s : State) : Prop :=
  (w.eligible && w.judges) = true ∧ s.gap.ident ≠ some (.setting run.expected) ∧
    s.gap.mismatch + 1 = s.cfg.mismatchLimit

/-- The state with another mismatch counter. -/
def withMismatch (n : Nat) (s : State) : State := s.modGap (fun g => { g with mismatch := n })

theorem judgeWindow_of_no_run (w : WindowRecord) {s : State} (hrun : s.run = none) : judgeWindow w s = s := by
  rw [judgeWindow, hrun]

section
variable (w : WindowRecord) {s : State} {run : Run} (hrun : s.run = some run)
include hrun

theorem judgeWindow_of_neutral (h : (w.eligible && w.judges) = false) : judgeWindow w s = s := by
  have hskip : (!w.eligible || !w.judges) = true := by rw [← Bool.not_and, h]; rfl
  rw [judgeWindow, hrun]
  exact if_pos hskip

/-- An eligible non-neutral window: the setting expected, a counter at its limit, or one mismatch more. -/
theorem judgeWindow_of_judged (h : (w.eligible && w.judges) = true) :
    judgeWindow w s =
      if s.gap.ident = some (.setting run.expected) then withMismatch 0 s
      else if s.cfg.mismatchLimit ≤ s.gap.mismatch then s
      else if s.gap.mismatch + 1 = s.cfg.mismatchLimit then
        arise settingCause (withMismatch (s.gap.mismatch + 1) s)
      else withMismatch (s.gap.mismatch + 1) s := by
  have hjudged : ¬ (!w.eligible || !w.judges) = true := by rw [← Bool.not_and, h]; nofun
  rw [judgeWindow, hrun]
  exact if_neg hjudged

theorem judgeWindow_of_reachesLimit (h : ReachesLimit w run s) :
    judgeWindow w s = arise settingCause (withMismatch (mismatchAfter w run s) s) := by
  obtain ⟨hjudged, hident, hlimit⟩ := h
  have hbelow : s.gap.mismatch < s.cfg.mismatchLimit := by omega
  rw [judgeWindow_of_judged w hrun hjudged, if_neg hident, if_neg (by omega), if_pos hlimit, mismatchAfter,
    if_pos hjudged, if_neg hident, if_pos hbelow]

theorem judgeWindow_of_not_reachesLimit (h : ¬ ReachesLimit w run s) :
    judgeWindow w s = withMismatch (mismatchAfter w run s) s := by
  cases hjudged : w.eligible && w.judges with
  | false =>
    rw [judgeWindow_of_neutral w hrun hjudged, mismatchAfter, if_neg (by simp [hjudged])]
    rfl
  | true =>
    rw [judgeWindow_of_judged w hrun hjudged, mismatchAfter, if_pos hjudged]
    by_cases hident : s.gap.ident = some (.setting run.expected)
    · rw [if_pos hident, if_pos hident]
    · have hlimit : s.gap.mismatch + 1 ≠ s.cfg.mismatchLimit := fun he => h ⟨hjudged, hident, he⟩
      rw [if_neg hident, if_neg hident, if_neg hlimit]
      by_cases hbelow : s.gap.mismatch < s.cfg.mismatchLimit
      · rw [if_neg (by omega), if_pos hbelow]
      · rw [if_pos (by omega), if_neg hbelow]
        rfl

end

/-- Judging a window is nothing or another counter, after which the halt cause SETTING arises at most. -/
theorem judgeWindow_cases (w : WindowRecord) (s : State) :
    ∃ n, judgeWindow w s = withMismatch n s ∨ judgeWindow w s = arise settingCause (withMismatch n s) := by
  cases hrun : s.run with
  | none => exact ⟨s.gap.mismatch, .inl (judgeWindow_of_no_run w hrun)⟩
  | some run =>
    refine ⟨mismatchAfter w run s, ?_⟩
    by_cases h : ReachesLimit w run s
    · exact .inr (judgeWindow_of_reachesLimit w hrun h)
    · exact .inl (judgeWindow_of_not_reachesLimit w hrun h)

theorem othersKept_judgeWindow (w : WindowRecord) (s : State) : OthersKept s (judgeWindow w s) := by
  have hcounted (n : Nat) : OthersKept s (withMismatch n s) := ⟨rfl, rfl, rfl, rfl, rfl, rfl, ⟨rfl, rfl⟩, kept_refl s⟩
  obtain ⟨n, h | h⟩ := judgeWindow_cases w s
  · rw [h]; exact hcounted n
  · rw [h]; exact othersKept_trans (hcounted n) (othersKept_arise _ _)

theorem setupKept_judgeWindow (w : WindowRecord) (s : State) : SetupKept s (judgeWindow w s) := by
  obtain ⟨n, h | h⟩ := judgeWindow_cases w s
  · rw [h]; exact ⟨rfl, rfl, rfl⟩
  · rw [h, SetupKept, arise_cfg, arise_axisX, arise_axisY]; exact ⟨rfl, rfl, rfl⟩

/-- It writes three fields of the Gap Monitor at most. -/
theorem judgeWindow_gap (w : WindowRecord) (s : State) :
    ∃ presence eligible mismatch, (judgeWindow w s).gap =
      { s.gap with presence := presence, eligible := eligible, mismatch := mismatch } := by
  obtain ⟨n, h | h⟩ := judgeWindow_cases w s
  · exact ⟨s.gap.presence, s.gap.eligible, n, congrArg State.gap h⟩
  · obtain ⟨_, _, presence, eligible, _, _, _, harisen⟩ := arise_eq settingCause (withMismatch n s)
    exact ⟨presence, eligible, n, congrArg State.gap (h.trans harisen)⟩

/-! ### WINDOW_END (R100 to R103) -/

/-- The setting identified at the end of a window: that of its mean where it is non-neutral (R101). -/
def identAfter (s : State) : Option Ident :=
  if 4 ≤ s.gap.m then some (identify (s.gap.sum / s.gap.m) 0 s.cfg.settings) else s.gap.ident

/-- The state with the window's record, setting and mean (R100, R101). -/
def recorded (s : State) : State := { s with
  gap := { s.gap with
    lastWindow := some ⟨s.gap.n, s.gap.m, s.gap.sum, s.gap.eligible⟩
    ident := identAfter s
    lastMean := if 4 ≤ s.gap.m then some (s.gap.sum / s.gap.m) else s.gap.lastMean } }

theorem identified_eq_recorded (s : State) : s.modGap (fun g => g.identified s.cfg.settings) = recorded s := by
  by_cases h : 4 ≤ s.gap.m <;>
    simp [State.modGap, Gap.identified, Gap.window, WindowRecord.judges, recorded, identAfter, h]

/-- The state after the window is judged. -/
def windowJudged (s : State) : State := judgeWindow s.gap.window (recorded s)

/-- The state after the end of a window: it is recorded and judged, the next begins, and the outputs follow. -/
def windowEnded (s : State) : State := drive (beginWindow (windowJudged s))

theorem exec_windowEnd {s : State} (h : s.resetLow = false) : exec .windowEnd s = .next (windowEnded s) := by
  have hend : windowEnd s = windowEnded s := by
    rw [windowEnd, if_neg (by simp [h]), identified_eq_recorded, windowEnded, windowJudged]
  rw [← hend]
  rfl

theorem windowEnded_run (s : State) : (windowEnded s).run = (windowJudged s).run := by
  rw [windowEnded, drive_run, beginWindow, modGap_run]

theorem windowJudged_settle (s : State) : (windowJudged s).gap.settle = s.gap.settle := by
  obtain ⟨_, _, _, hgap⟩ := judgeWindow_gap s.gap.window (recorded s)
  rw [windowJudged, hgap]
  rfl

/-- The Gap Monitor after the end of a window: nothing but the next window and the permits' stray count follows the
judging. -/
theorem windowEnded_gap (s : State) :
    ∃ presence stray, (windowEnded s).gap = { (recorded s).gap with
      n := 0, m := 0, sum := 0, windowTimer := s.cfg.windowPeriod * 1000
      eligible := eligibleNow (windowJudged s), mismatch := (windowJudged s).gap.mismatch
      presence := presence, stray := stray } := by
  obtain ⟨presence, eligible, mismatch, hgap⟩ := judgeWindow_gap s.gap.window (recorded s)
  have hcfg : (windowJudged s).cfg = s.cfg := (setupKept_judgeWindow _ (recorded s)).1
  refine ⟨presence, (windowEnded s).gap.stray, ?_⟩
  have hnext : (windowEnded s).gap = { (windowJudged s).gap with
      n := 0, m := 0, sum := 0, windowTimer := (windowJudged s).cfg.windowPeriod * 1000
      eligible := eligibleNow (windowJudged s), stray := (windowEnded s).gap.stray } := rfl
  have hjudged : (windowJudged s).gap = { (recorded s).gap with
      presence := presence, eligible := eligible, mismatch := mismatch } := hgap
  rw [hnext, hcfg, hjudged]

theorem othersKept_windowEnded (s : State) : OthersKept s (windowEnded s) := by
  have hrecorded : OthersKept s (recorded s) := ⟨rfl, rfl, rfl, rfl, rfl, rfl, ⟨rfl, rfl⟩, kept_refl s⟩
  have hbegun (u : State) : OthersKept u (beginWindow u) := ⟨rfl, rfl, rfl, rfl, rfl, rfl, ⟨rfl, rfl⟩, kept_refl u⟩
  exact othersKept_trans hrecorded
    (othersKept_trans (othersKept_judgeWindow _ _) (othersKept_trans (hbegun _) (othersKept_drive _)))

theorem setupKept_windowEnded (s : State) : SetupKept s (windowEnded s) := by
  have hjudged : SetupKept s (windowJudged s) := setupKept_judgeWindow _ (recorded s)
  simpa [SetupKept, windowEnded, beginWindow] using hjudged

theorem windowJudged_of_no_run {s : State} (hrun : s.run = none) : windowJudged s = recorded s :=
  judgeWindow_of_no_run _ hrun

section
variable {s : State} {run : Run} (hrun : s.run = some run)
include hrun

theorem windowJudged_mismatch :
    (windowJudged s).gap.mismatch = mismatchAfter s.gap.window run (recorded s) := by
  have hrecorded : (recorded s).run = some run := hrun
  by_cases h : ReachesLimit s.gap.window run (recorded s)
  · rw [windowJudged, judgeWindow_of_reachesLimit _ hrecorded h, arise_mismatch]
    rfl
  · rw [windowJudged, judgeWindow_of_not_reachesLimit _ hrecorded h]
    rfl

/-- A counter that reaches its limit halts a run in one of the four phases (R73, R103). -/
theorem windowJudged_run_of_reachesLimit (h : ReachesLimit s.gap.window run (recorded s))
    (hp : run.phase.tracking = true) :
    (windowJudged s).run = some { run with phase := .halted, halt := some ⟨settingCause, run.phase⟩ } := by
  have hrecorded : (recorded s).run = some run := hrun
  have hcounted (n : Nat) : (withMismatch n (recorded s)).run = some run := hrun
  rw [windowJudged, judgeWindow_of_reachesLimit _ hrecorded h, arise_of_tracking _ (hcounted _) hp,
    haltRun_run _ (hcounted _)]

theorem windowJudged_run_of_not_reachesLimit (h : ¬ ReachesLimit s.gap.window run (recorded s)) :
    (windowJudged s).run = some run := by
  have hrecorded : (recorded s).run = some run := hrun
  rw [windowJudged, judgeWindow_of_not_reachesLimit _ hrecorded h]
  exact hrun

end

/-- A window is eligible in LEAD_IN and CUTTING with the settle window IDLE (R102). -/
theorem eligibleNow_iff (s : State) : eligibleNow s = true ↔
    (∃ r, s.run = some r ∧ (r.phase = .leadIn ∨ r.phase = .cutting)) ∧ s.gap.settle = none := by
  have hphase (p : Phase) : p.judged = true ↔ p = .leadIn ∨ p = .cutting := by cases p <;> simp [Phase.judged]
  simp [eligibleNow, Option.any_eq_true, hphase]

/-! ### SETTLE_END (R111) -/

theorem exec_settleEnd (s : State) : exec .settleEnd s = .next (settleEnd s) := rfl

/-- Settles O49: the window is recorded and judged, then the next begins; the setting identified is the first that
fits. -/
theorem windowEndAndSettleEnd : Obligations.WindowEndAndSettleEnd := by
  unfold Obligations.WindowEndAndSettleEnd
  refine ⟨fun s hr => ?window, fun s => exec_settleEnd s, fun mean table => ?identify⟩
  case identify => exact ⟨identify_eq_setting_iff mean table, identify_eq_unknown_iff mean table⟩
  case window =>
    intro ident judged
    obtain ⟨presence, stray, hgap⟩ := windowEnded_gap s
    obtain ⟨hplate, hprog, -, hplanner, hcatch, htrace, hhistory, hkept⟩ := othersKept_windowEnded s
    refine ⟨windowEnded s, exec_windowEnd hr, by rw [hgap]; rfl, by rw [hgap], by rw [hgap], by rw [hgap],
      by rw [hgap], by rw [hgap]; rfl, by rw [hgap]; rfl, ?eligible, fun hrun => ?idle, fun run hrun =>
      ⟨?mismatch, fun hj hi hlim hp => ?halts, fun hnot => ?stays⟩, by rw [hgap]; rfl, by rw [hgap]; rfl,
      by rw [hgap]; rfl, by rw [hgap]; rfl, hplate, hprog, hplanner, hcatch, htrace, setupKept_windowEnded s, hhistory,
      hkept⟩
    case eligible =>
      rw [hgap, windowEnded_run, ← windowJudged_settle]
      exact eligibleNow_iff _
    case idle =>
      rw [hgap, windowEnded_run, windowJudged_of_no_run hrun]
      exact ⟨hrun, rfl⟩
    case mismatch =>
      rw [hgap]
      exact windowJudged_mismatch hrun
    case halts =>
      rw [windowEnded_run]
      exact ⟨_, windowJudged_run_of_reachesLimit hrun ⟨hj, hi, hlim⟩ hp, rfl, rfl⟩
    case stays =>
      rw [windowEnded_run]
      refine windowJudged_run_of_not_reachesLimit hrun ?_
      rintro ⟨hj, hi, hlim⟩
      obtain hneutral | hmatch | hother := hnot
      · exact absurd hj (Bool.eq_false_iff.mp hneutral)
      · exact hi hmatch
      · exact hother hlim

end Sys2Proof.GapMonitoring
end

section
/-! SUPPORT. Wire breaks and rethreading (chapter 7): the checks of THREAD_BEGIN, the resume plan, what follows a failed
attempt, what a break does by the run's phase, and the statements settled from these rules. -/

namespace Sys2Proof.Threading

open Sys2Proof.Machine Sys2Proof.Safety Sys2Proof.AxisPosition Sys2Proof.Runs Sys2Proof.GapMonitoring

/-! ### THREAD_BEGIN (R124) -/

theorem exec_threadBegin (tag b : Byte) {s : State} (h : Serves .thread .threadBegin s) :
    exec (.threadBegin tag [b]) s = .next (finish .thread Req.threadBegin.code tag (threadBegin b.toNat s)) :=
  congrArg Host.Outcome.next (serve_of_serves tag [b] (parseByte [b]) b.toNat threadBegin h rfl)

theorem threadBegin_of_error {n : Nat} {s : State} {st : Status} (h : checkThreadBegin n s = .error st) :
    threadBegin n s = (s, some (st.code :: threadBeginFields s)) := by
  simp [threadBegin, h]

theorem threadBegin_of_ok {n : Nat} {s : State} {g : Target} (h : checkThreadBegin n s = .ok g) :
    threadBegin n s = ({ s with planner := { s.planner with target := some { g with begun := true } } },
      some (0 :: threadBeginFields s)) := by
  simp [threadBegin, h, State.modPlanner, Status.code]

/-- The fields with a target posted: its number, its point and the plate position. -/
theorem threadBeginFields_of_target {s : State} {g : Target} (h : s.planner.target = some g) :
    threadBeginFields s = natField 1 g.number ++ pointField g.point ++ pointField s.pos := by
  simp [threadBeginFields, h, optPoint]

/-- The fields with no target posted: number 0 and a point of all ones (log 42). -/
theorem threadBeginFields_of_none {s : State} (h : s.planner.target = none) :
    threadBeginFields s = 0 :: (List.replicate 6 0xFF ++ pointField s.pos) := by
  have hzero : natField 1 0 = [0] := by decide
  simp [threadBeginFields, h, optPoint, absentField, hzero]

theorem withinTol_iff (tol : Nat) (p q : Point) :
    withinTol tol p q = true ↔ (p.x - q.x).natAbs ≤ tol ∧ (p.y - q.y).natAbs ≤ tol := by
  simp [withinTol]

theorem checkThreadBegin_of_none (n : Nat) {s : State} (h : s.planner.target = none) :
    checkThreadBegin n s = .error .state := by
  simp [checkThreadBegin, h]

section
variable {n : Nat} {s : State} {g : Target} (ht : s.planner.target = some g)
include ht

theorem checkThreadBegin_of_number (hn : g.number ≠ n) : checkThreadBegin n s = .error .stale := by
  simp [checkThreadBegin, ht, hn]

variable (hn : g.number = n)
include hn

theorem checkThreadBegin_of_begun (hb : g.begun = true) : checkThreadBegin n s = .error .state := by
  simp [checkThreadBegin, ht, hn, hb]

variable (hb : g.begun = false)
include hb

theorem checkThreadBegin_of_wire (hw : s.planner.wire ≠ .none) : checkThreadBegin n s = .error .wire := by
  simp [checkThreadBegin, ht, hn, hb, hw]

variable (hw : s.planner.wire = .none)
include hw

/-- Checks 5 and 6 answer FAULT alike. -/
theorem checkThreadBegin_of_fault (hf : s.holdIn = true ∨ s.suspect = true ∨ s.available = false) :
    checkThreadBegin n s = .error .fault := by
  cases hh : s.holdIn
  · have hpos : (s.suspect || !s.available) = true := by simpa [hh] using hf
    simp [checkThreadBegin, ht, hn, hb, hw, hh, hpos]
  · simp [checkThreadBegin, ht, hn, hb, hw, hh]

variable (hh : s.holdIn = false) (hs : s.suspect = false) (ha : s.available = true)
include hh hs ha

theorem checkThreadBegin_of_position (hp : ¬ withinTol s.cfg.threadTol s.pos g.point = true) :
    checkThreadBegin n s = .error .position := by
  simp [checkThreadBegin, ht, hn, hb, hw, hh, hs, ha, hp]

theorem checkThreadBegin_of_all (hp : withinTol s.cfg.threadTol s.pos g.point = true) :
    checkThreadBegin n s = .ok g := by
  simp [checkThreadBegin, ht, hn, hb, hw, hh, hs, ha, hp]

end

/-! ### WIRE_CUT (R115) -/

theorem exec_wireCut (tag : Byte) {s : State} (h : Serves .thread .wireCut s) :
    exec (.wireCut tag []) s = .next (finish .thread Req.wireCut.code tag (wireCut () s)) :=
  congrArg Host.Outcome.next (serve_of_serves tag [] (parseNone []) () wireCut h rfl)

theorem unwired_iff (p : Phase) : p.unwired = true ↔ p = .awaitThread ∨ p = .broken ∨ p = .stranded := by
  cases p <;> simp [Phase.unwired]

theorem not_unwired_iff (p : Phase) :
    p.unwired = false ↔ p = .leadIn ∨ p = .approach ∨ p = .cutting ∨ p = .atLimit ∨ p = .halted := by
  cases p <;> simp [Phase.unwired]

theorem wireCut_of_unwired {s : State} (h : ∀ run, s.run = some run → run.phase.unwired = true) :
    wireCut () s = (wireNone s, some (0 :: wireField .none)) := by
  have hall : s.run.all (fun r => r.phase.unwired) = true := (Option.all_eq_true _ _).mpr h
  simp only [wireCut, hall, if_true]
  rfl

theorem wireCut_of_wired {s : State} {run : Run} (hrun : s.run = some run) (h : run.phase.unwired = false) :
    wireCut () s = (s, some (0x01 :: wireField s.planner.wire)) := by
  simp [wireCut, hrun, h, Status.code]

/-- Settles O31, check by check. -/
theorem threadBeginAndWireCut : Obligations.ThreadBeginAndWireCut := by
  unfold Obligations.ThreadBeginAndWireCut
  refine ⟨fun tag b g s h ht hn hb hw hh hs ha hp => ?begun, fun tag b s h ht => ?noTarget,
    ?refused, fun tag s h hrun => ?cut, fun tag run s h hrun hp => ?notCut⟩
  case begun =>
    rw [exec_threadBegin tag b h,
      threadBegin_of_ok (checkThreadBegin_of_all ht hn hb hw hh hs ha ((withinTol_iff ..).mpr hp)),
      threadBeginFields_of_target ht]
    rfl
  case noTarget =>
    rw [exec_threadBegin tag b h, threadBegin_of_error (checkThreadBegin_of_none _ ht), threadBeginFields_of_none ht]
    rfl
  case refused =>
    intro tag b g s h ht within refused
    have refusedBy {st : Status} (he : checkThreadBegin b.toNat s = .error st) : refused st.code := by
      show exec (.threadBegin tag [b]) s = _
      rw [exec_threadBegin tag b h, threadBegin_of_error he, threadBeginFields_of_target ht]
      rfl
    exact ⟨fun hn => refusedBy (checkThreadBegin_of_number ht hn),
      fun hn hb => refusedBy (checkThreadBegin_of_begun ht hn hb),
      fun hn hb hw => refusedBy (checkThreadBegin_of_wire ht hn hb hw),
      fun hn hb hw hf => refusedBy (checkThreadBegin_of_fault ht hn hb hw hf),
      fun hn hb hw hh hs ha hp =>
        refusedBy (checkThreadBegin_of_position ht hn hb hw hh hs ha (mt (withinTol_iff ..).mp hp))⟩
  case cut =>
    rw [exec_wireCut tag h, wireCut_of_unwired (fun run hr => (unwired_iff _).mpr (hrun run hr))]
    rfl
  case notCut =>
    rw [exec_wireCut tag h, wireCut_of_wired hrun ((not_unwired_iff _).mpr hp)]
    rfl

/-! ### The first entry of a table that fits -/

theorem get?_of_mem {α : Type} {t : Table α} (hwf : t.wf = true) {k : Nat} {v : α} (h : (k, v) ∈ t) :
    Table.get? t k = some v := by
  induction t with
  | nil => simp at h
  | cons e rest ih =>
    obtain ⟨j, w⟩ := e
    obtain ⟨hrest, hlow⟩ := (Table.wf_cons j w rest).mp hwf
    rw [Table.get?_cons]
    obtain heq | hmem := List.mem_cons.mp h
    · obtain ⟨rfl, rfl⟩ := Prod.mk.inj heq
      exact if_pos rfl
    · rw [if_neg (Nat.ne_of_lt (hlow _ hmem)), ih hrest hmem]

theorem find?_of_none_fits {α : Type} {t : Table α} (hwf : t.wf = true) {p : Nat × α → Bool}
    (h : ∀ k v, Table.get? t k = some v → ¬ p (k, v) = true) : t.find? p = none :=
  List.find?_eq_none.mpr fun _ he => h _ _ (get?_of_mem hwf he)

/-- A search finds the lowest index that fits, since indices rise. -/
theorem find?_of_least {α : Type} {t : Table α} (hwf : t.wf = true) {p : Nat × α → Bool} {k : Nat} {v : α}
    (hk : Table.get? t k = some v) (hp : p (k, v) = true)
    (hleast : ∀ j w, j < k → Table.get? t j = some w → ¬ p (j, w) = true) : t.find? p = some (k, v) := by
  induction t with
  | nil => simp at hk
  | cons e rest ih =>
    obtain ⟨j, w⟩ := e
    obtain ⟨hrest, hlow⟩ := (Table.wf_cons j w rest).mp hwf
    rw [Table.get?_cons] at hk
    by_cases hjk : j = k
    · rw [if_pos hjk, Option.some_inj] at hk
      subst hjk hk
      exact List.find?_cons_of_pos hp
    · rw [if_neg hjk] at hk
      have hlt : j < k := by
        obtain ⟨e, he, rfl⟩ := List.mem_map.mp (mem_indices_of_get? hk)
        exact hlow e he
      have hnot : ¬ p (j, w) = true := hleast j w hlt (by rw [Table.get?_cons, if_pos rfl])
      rw [List.find?_cons_of_neg hnot]
      refine ih hrest hk fun i u hi hu => hleast i u hi ?_
      have hji : j ≠ i := by
        rintro rfl
        obtain ⟨e, he, hej⟩ := List.mem_map.mp (mem_indices_of_get? hu)
        exact Nat.ne_of_lt (hlow e he) hej.symm
      rw [Table.get?_cons, if_neg hji, hu]

/-! ### The resume plan (R118, R119) -/

theorem isLoopBreak_iff (p : Path) : p.isLoopBreak = true ↔ ∀ h, p ≠ .leadIn h := by
  cases p <;> simp [Path.isLoopBreak]

theorem qualifies_iff (run : Run) (c : Contour) (a h : Nat) (hole : Hole) :
    qualifies run c a h hole = true ↔ h ≠ run.hole ∧ hole.owner = run.contour ∧ hole.lv.state = .opened ∧
      (hole.dirs = .both ∨ (hole.dirs = .fwd ∧ run.dir = .fwd) ∨ (hole.dirs = .rev ∧ run.dir = .rev)) ∧
      (run.kind = .skim → hole.lv.leadInCut = true) ∧ runDist run.e0 run.dir c.g.loopLen hole.g.entry ≤ a := by
  simp only [qualifies, Bool.and_eq_true, ← allows_iff, and_assoc, bne_iff_ne, beq_iff_eq, decide_eq_true_eq,
    Bool.or_eq_true, ← imp_iff_not_or, ne_eq]

section
variable {s : State} {run : Run} {brk : BreakRecord} {c : Contour} (hc : s.contour? run.contour = some c)
include hc

/-- Step 1 of R118. -/
theorem choosePlan_of_kerf (hloop : brk.path.isLoopBreak = true) (hkerf : s.planner.kerf.getD 0 < s.cfg.kerfLimit) :
    choosePlan s run brk = some (kerfPlan run c brk s.cfg.backoff) := by
  simp [choosePlan, hc, hloop, hkerf]

variable (hnot : ¬ (brk.path.isLoopBreak = true ∧ s.planner.kerf.getD 0 < s.cfg.kerfLimit))
include hnot

/-- Step 2 of R118. -/
theorem choosePlan_of_own {hole : Hole} (hh : s.hole? run.hole = some hole) (ho : hole.lv.state = .opened) :
    choosePlan s run brk = some (holePlan run c brk run.hole hole) := by
  have hfilter : (s.hole? run.hole).filter (fun h => h.lv.state == .opened) = some hole := by
    simp [hh, Option.filter, ho]
  simp [choosePlan, hc, hnot, hfilter]

/-- Step 3 of R118. -/
theorem choosePlan_of_other (hown : ¬ ∃ hole, s.hole? run.hole = some hole ∧ hole.lv.state = .opened) :
    choosePlan s run brk =
      if brk.path.isLoopBreak then
        (alternate run c brk.a s.plate.holes).map (fun e => holePlan run c brk e.1 e.2)
      else none := by
  have hfilter : (s.hole? run.hole).filter (fun h => h.lv.state == .opened) = none := by
    simpa [Option.filter_eq_none_iff] using hown
  simp [choosePlan, hc, hnot, hfilter]

end

/-- A HOLE plan with its fields written out (R119). -/
theorem holePlan_eq (run : Run) (c : Contour) (brk : BreakRecord) (h : Nat) (hole : Hole) :
    holePlan run c brk h hole = ⟨.hole h, none, hole.centre, brk.a,
      c.pointOf (loopPos run.e0 run.dir c.g.loopLen brk.a), decide (hole.lv.leadInCut = false ∧ run.kind ≠ .skim)⟩ := by
  have hcuts : (!hole.lv.leadInCut && run.kind != .skim) = decide (hole.lv.leadInCut = false ∧ run.kind ≠ .skim) := by
    cases hole.lv.leadInCut <;> cases run.kind <;> decide
  rw [holePlan, hcuts, pointOfRun]

/-- Settles O36, step by step of R118. -/
theorem planIsTheFirstThatApplies : Obligations.PlanIsTheFirstThatApplies := by
  unfold Obligations.PlanIsTheFirstThatApplies
  intro s run brk c hwf hc point kerf own fits atHole
  have hkerf : kerf ↔ brk.path.isLoopBreak = true ∧ s.planner.kerf.getD 0 < s.cfg.kerfLimit := by
    rw [isLoopBreak_iff]
  have hfits (h : Nat) (hole : Hole) : qualifies run c brk.a h hole = true ↔ fits h hole := qualifies_iff ..
  have hat (h : Nat) (hole : Hole) : holePlan run c brk h hole = atHole h hole := holePlan_eq ..
  refine ⟨fun hk => ?kerf, fun hk hole hh ho => ?own, fun hk hown hloop h hole hh hf hleast => ?alternate,
    fun hk hown hnone => ?none⟩
  case kerf =>
    obtain ⟨hloop, hlimit⟩ := hkerf.mp hk
    exact choosePlan_of_kerf hc hloop hlimit
  case own => rw [choosePlan_of_own hc (mt hkerf.mpr hk) hh ho, hat]
  case alternate =>
    have hfind : alternate run c brk.a s.plate.holes = some (h, hole) :=
      find?_of_least hwf hh ((hfits ..).mpr hf) fun k other hlt ho => mt (hfits ..).mp (hleast k other hlt ho)
    rw [choosePlan_of_other hc (mt hkerf.mpr hk) hown, if_pos ((isLoopBreak_iff _).mpr hloop), hfind, Option.map_some,
      hat]
  case none =>
    rw [choosePlan_of_other hc (mt hkerf.mpr hk) hown]
    obtain ⟨h, hpath⟩ | hnot := hnone
    · rw [hpath]
      rfl
    · have hfind : alternate run c brk.a s.plate.holes = none :=
        find?_of_none_fits hwf fun k other ho => mt (hfits ..).mp (hnot k other ho)
      simp [hfind]

/-! ### A target posted or the run stranded (R119 to R121) -/

/-- Stranding writes the run's plan and phase and the window's mark, and posts RUN_PHASE and STRANDED (R120). -/
theorem strand_eq (occasion : Occasion) {s : State} {run : Run} (h : s.run = some run) :
    strand occasion s = post (.stranded run.number run.contour run.hole occasion)
      (post (.runPhase run.number (.phase .stranded)) { s with
        run := some { run with plan := none, phase := .stranded }, gap := { s.gap with eligible := false } }) := by
  simp [strand, h, setPhase, Phase.judged, ineligible, State.modGap, post]

theorem strand_link (occasion : Occasion) {s : State} {run : Run} (h : s.run = some run) (l : Link) :
    (strand occasion s).link l = ((s.link l).posted l (.runPhase run.number (.phase .stranded))).posted l
      (.stranded run.number run.contour run.hole occasion) := by
  rw [strand_eq occasion h]
  cases l <;> rfl

section
variable (occasion : Occasion) {s : State} {run : Run} (h : s.run = some run) {l : Link} (hl : l = .motion ∨ l = .cell)
include h hl

/-- STRANDED stands on the Motion Link and the Cell Link after a stranding (R120). -/
theorem get?_raw_strand_stranded : Table.get? ((strand occasion s).link l).raw 5 =
    some (.stranded run.number run.contour run.hole occasion) := by
  have hr : (routed l).getLsbD 5 = true := by rcases hl with rfl | rfl <;> decide
  rw [strand_link occasion h]
  exact get?_posted_same _ l (.stranded ..) hr (by simp [Event.bit])

theorem get?_raw_strand_phase : Table.get? ((strand occasion s).link l).raw 0 =
    some (.runPhase run.number (.phase .stranded)) := by
  have hr : (routed l).getLsbD 0 = true := by rcases hl with rfl | rfl <;> decide
  rw [strand_link occasion h, get?_posted_other _ _ _ _ (by simp [Event.bit])]
  exact get?_posted_same _ l (.runPhase ..) hr (by simp [Event.bit])

end

/-- What planning again comes to: a target posted, with a plan in the run record, or the run stranded. -/
def Replanned (purpose : Purpose) (run : Run) (s t : State) : Prop :=
  (∃ place point plan,
    t = setTarget purpose place run.contour point { s with run := some { run with plan := plan } }) ∨
  ∃ occasion, t = strand occasion s

section
variable {purpose : Purpose} {run : Run} {s t : State} (hrun : s.run = some run) (h : Replanned purpose run s t)
include hrun h

/-- All that planning again writes; a target is posted while the phase stays, or the run is stranded. -/
theorem Replanned.writes :
    ∃ phase plan eligible counter target withdrawn m u c, t = { s with
      run := some { run with phase := phase, plan := plan }
      gap := { s.gap with eligible := eligible }
      planner := { s.planner with counter := counter, target := target, withdrawn := withdrawn }
      motion := m, thread := u, cell := c } ∧
    ((target.isSome = true ∧ phase = run.phase) ∨ (target = s.planner.target ∧ phase = .stranded)) := by
  obtain ⟨place, point, plan, rfl⟩ | ⟨occasion, rfl⟩ := h
  · exact ⟨run.phase, plan, s.gap.eligible, _, _, _, s.motion, s.thread, s.cell, rfl, .inl ⟨rfl, rfl⟩⟩
  · exact ⟨.stranded, none, false, s.planner.counter, s.planner.target, s.planner.withdrawn, _, _, _,
      strand_eq occasion hrun, .inr ⟨rfl, rfl⟩⟩

theorem Replanned.kept : Kept s t := by
  obtain ⟨place, point, plan, rfl⟩ | ⟨occasion, rfl⟩ := h
  · exact kept_refl s
  · rw [strand_eq occasion hrun]
    exact kept_trans (kept_trans (kept_refl s) (kept_post ..)) (kept_post ..)

end

theorem planResume_of_plan {s : State} {run : Run} {p : Plan} (hrun : s.run = some run)
    (hp : run.brk.bind (choosePlan s run) = some p) :
    planResume s =
      setTarget .resume p.place run.contour p.target { s with run := some { run with plan := some p } } := by
  simp [planResume, hrun, hp, resumeTarget]

theorem planResume_of_none {s : State} {run : Run} (hrun : s.run = some run)
    (hp : run.brk.bind (choosePlan s run) = none) : planResume s = strand .noPlan s := by
  simp [planResume, hrun, hp]

theorem planResume_replanned {s : State} {run : Run} (hrun : s.run = some run) :
    Replanned .resume run s (planResume s) := by
  cases hp : run.brk.bind (choosePlan s run) with
  | some p => exact .inl ⟨_, _, _, planResume_of_plan hrun hp⟩
  | none => exact .inr ⟨_, planResume_of_none hrun hp⟩

theorem replan_resume {s : State} {run : Run} (hrun : s.run = some run) : replan .resume s = planResume s := by
  simp [replan, hrun]

theorem replan_start_of_open {s : State} {run : Run} {hole : Hole} (hrun : s.run = some run)
    (hh : s.hole? run.hole = some hole) (ho : hole.lv.state = .opened) :
    replan .start s = setTarget .start (.hole run.hole) run.contour hole.centre s := by
  simp [replan, hrun, hh, ho, startTarget]

theorem replan_start_of_not_open {s : State} {run : Run} (hrun : s.run = some run)
    (hno : ∀ hole, s.hole? run.hole = some hole → hole.lv.state ≠ .opened) :
    replan .start s = strand .startBlocked s := by
  have hany : (s.hole? run.hole).any (fun h => h.lv.state == .opened) = false := by
    cases hh : s.hole? run.hole with
    | none => rfl
    | some hole => simpa using hno hole hh
  simp [replan, hrun, hany]

/-- The choice after a failed attempt (R128). -/
theorem replan_replanned (purpose : Purpose) {s : State} {run : Run} (hrun : s.run = some run) :
    Replanned purpose run s (replan purpose s) := by
  cases purpose with
  | resume =>
    rw [replan_resume hrun]
    exact planResume_replanned hrun
  | start =>
    by_cases hopen : ∃ hole, s.hole? run.hole = some hole ∧ hole.lv.state = .opened
    · obtain ⟨hole, hh, ho⟩ := hopen
      have hsame : ({ s with run := some { run with plan := run.plan } } : State) = s := by rw [← hrun]
      exact .inl ⟨_, _, run.plan, by rw [hsame]; exact replan_start_of_open hrun hh ho⟩
    · exact .inr ⟨_, replan_start_of_not_open hrun fun hole hh ho => hopen ⟨hole, hh, ho⟩⟩

/-- The plan is read from the map, the kerf attempts, the configuration and the run alone. -/
theorem choosePlan_congr {s t : State} (hplate : t.plate = s.plate) (hkerf : t.planner.kerf = s.planner.kerf)
    (hcfg : t.cfg = s.cfg) (run : Run) : choosePlan t run = choosePlan s run := by
  funext brk
  simp only [choosePlan, State.contour?, State.hole?, hplate, hkerf, hcfg]

/-- A run that is not to spark holds SPARK_OK low (R144). -/
theorem sparkCond_of_run {s : State} {run : Run} (hrun : s.run = some run) (hp : run.phase.sparks = false) :
    s.sparkCond = false := by
  simp [State.sparkCond, hrun, hp]

/-! ### TARGET (R121) -/

/-- TARGET stands on the Motion Link and the Thread Link after a posting of it. -/
theorem get?_raw_postTarget (s : State) {l : Link} (hl : l = .motion ∨ l = .thread) :
    Table.get? ((postTarget s).link l).raw 4 = some (.target s.planner.target s.planner.lastStopped) := by
  have hr : (routed l).getLsbD 4 = true := by rcases hl with rfl | rfl <;> decide
  exact get?_raw_post_same (.target ..) s hr (by simp [Event.bit])

theorem get?_raw_postTarget_other (s : State) (l : Link) {b : Nat} (h : b ≠ 4) :
    Table.get? ((postTarget s).link l).raw b = Table.get? (s.link l).raw b :=
  get?_raw_post_other (.target ..) s l h

/-! ### THREAD_DONE: the cases of R125 -/

theorem parseThreadDone_body {q : ThreadDoneReq} (hn : q.number < 256) (hr : q.result < 256) :
    parseThreadDone q.body = some q := by
  have hread : parseThreadDone q.body = some ⟨(BitVec.ofNat 8 q.number).toNat, (BitVec.ofNat 8 q.result).toNat⟩ := rfl
  rw [hread, BitVec.toNat_ofNat, BitVec.toNat_ofNat, Nat.mod_eq_of_lt hn, Nat.mod_eq_of_lt hr]

theorem exec_threadDone (tag : Byte) {q : ThreadDoneReq} {s : State} (h : Serves .thread .threadDone s)
    (hn : q.number < 256) (hr : q.result < 256) :
    exec (.threadDone tag q.body) s = .next (finish .thread Req.threadDone.code tag (threadDone q s)) :=
  congrArg Host.Outcome.next (serve_of_serves tag q.body _ q threadDone h (parseThreadDone_body hn hr))

section
variable {q : ThreadDoneReq} {s : State}

theorem threadDone_of_range (h : 1 < q.result) : threadDone q s = refuse .range s := by
  simp [threadDone, h]

variable (hr : q.result ≤ 1)
include hr

theorem threadDone_of_withdrawn {w : Withdrawn} (hw : s.planner.withdrawn = some w) (hn : w.number = q.number) :
    threadDone q s = (doneWithdrawn (q.result == 0) w s, some [0x0C]) := by
  simp [threadDone, Nat.not_lt.mpr hr, hw, hn, Option.filter, Status.code]

theorem threadDone_of_posted (hw : ∀ w, s.planner.withdrawn = some w → w.number ≠ q.number) :
    threadDone q s = donePosted q s := by
  have hfilter : s.planner.withdrawn.filter (fun w => w.number == q.number) = none := by
    simpa [Option.filter_eq_none_iff] using hw
  simp [threadDone, Nat.not_lt.mpr hr, hfilter]

end

section
variable {q : ThreadDoneReq} {s : State}

theorem donePosted_of_none (ht : s.planner.target = none) : donePosted q s = refuse .state s := by
  simp [donePosted, ht]

variable {g : Target} (ht : s.planner.target = some g)
include ht

theorem donePosted_of_number (hn : g.number ≠ q.number) : donePosted q s = refuse .stale s := by
  simp [donePosted, ht, hn]

theorem donePosted_of_not_begun (hn : g.number = q.number) (hb : g.begun = false) :
    donePosted q s = refuse .state s := by
  simp [donePosted, ht, hn, hb]

theorem donePosted_of_fail (hn : g.number = q.number) (hb : g.begun = true) (hr : q.result = 1) :
    donePosted q s =
      accepted (doneFail g s) (fun u => ofRun u (fun r => threadDoneFailBody r u.planner.target)) := by
  simp [donePosted, ht, hn, hb, hr]

end

theorem doneWithdrawn_eq (q : ThreadDoneReq) (w : Withdrawn) (s : State) :
    doneWithdrawn (q.result == 0) w s = { s with planner := { s.planner with
      withdrawn := none
      wire := if q.result = 0 then threadedWire w.place w.contour w.point else s.planner.wire } } := by
  simp only [doneWithdrawn, State.modPlanner, beq_iff_eq]

/-! ### A failed attempt (R127, R128) -/

/-- The state with the target taken back and its attempt counted, from which R128 plans again. -/
def failCounted (g : Target) (s : State) : State := countFailure g.place (stopTarget .failed s)

/-- The state that a THREAD_DONE FAIL leads to before TARGET is posted. -/
abbrev failReplanned (g : Target) (s : State) : State := replan g.purpose (failCounted g s)

theorem doneFail_def (g : Target) (s : State) : doneFail g s = postTarget (failReplanned g s) := rfl

/-- A hole's live fields after a failed attempt: one failure more, and BLOCKED at hole_limit (R127). -/
def failedAt (limit : Nat) (v : HoleLive) : HoleLive :=
  { v with fails := v.fails + 1, state := if v.fails + 1 = limit ∧ v.state ≠ .lost then .blocked else v.state }

section
variable {g : Target} {s : State} (ht : s.planner.target = some g)
include ht

theorem stopTarget_of_some (way : Way) : stopTarget way s = { s with
    planner := { s.planner with target := none, lastStopped := some (g.number, way) } } := by
  simp [stopTarget, State.modPlanner, ht]

theorem failCounted_of_kerf (hp : g.place = .kerf) : failCounted g s = { s with planner := { s.planner with
    target := none, lastStopped := some (g.number, .failed), kerf := some (s.planner.kerf.getD 0 + 1) } } := by
  rw [failCounted, stopTarget_of_some ht, hp]
  rfl

theorem failCounted_of_hole {h : Nat} (hp : g.place = .hole h) : failCounted g s = { s with
    plate := { s.plate with
      holes := Table.modify s.plate.holes h (fun e => { e with live := e.live.map (failedAt s.cfg.holeLimit) }) }
    planner := { s.planner with target := none, lastStopped := some (g.number, .failed) } } := by
  rw [failCounted, stopTarget_of_some ht, hp]
  rfl

/-- Counting writes the holes and the planner at most. -/
theorem failCounted_eq : ∃ holes kerf, failCounted g s = { s with
    plate := { s.plate with holes := holes }
    planner := { s.planner with
      target := none, lastStopped := some (g.number, .failed), kerf := kerf } } := by
  cases hp : g.place with
  | kerf => exact ⟨s.plate.holes, _, failCounted_of_kerf ht hp⟩
  | hole h => exact ⟨_, s.planner.kerf, failCounted_of_hole ht hp⟩

end

theorem othersKept_replied (l : Link) (k : Req) (tag : Byte) (body : List Byte) (s : State) :
    OthersKept s (replied l k tag body s) := by
  refine ⟨?_, ?_, ?_, ?_, ?_, ?_, ⟨?_, ?_⟩, kept_replied ..⟩ <;> simp [replied]

/-- The state after a THREAD_DONE FAIL that has led to a state u: TARGET, the outputs and the reply. -/
def failAnswered (tag : Byte) (u : State) : State :=
  replied .thread .threadDone tag (ofRun u (fun r => threadDoneFailBody r u.planner.target)) (drive (postTarget u))

section
variable (tag : Byte) (u : State)

theorem failAnswered_run : (failAnswered tag u).run = u.run := by simp [failAnswered, replied, postTarget]

theorem failAnswered_planner : (failAnswered tag u).planner = u.planner := by simp [failAnswered, replied, postTarget]

theorem failAnswered_plate : (failAnswered tag u).plate = u.plate := by simp [failAnswered, replied, postTarget]

theorem failAnswered_cfg : (failAnswered tag u).cfg = u.cfg := by simp [failAnswered, replied, postTarget]

theorem failAnswered_axisX : (failAnswered tag u).axisX = u.axisX := by simp [failAnswered, replied, postTarget]

theorem failAnswered_axisY : (failAnswered tag u).axisY = u.axisY := by simp [failAnswered, replied, postTarget]

theorem othersKept_failAnswered : OthersKept u (failAnswered tag u) :=
  othersKept_trans (othersKept_post ..) (othersKept_trans (othersKept_drive _) (othersKept_replied ..))

theorem failAnswered_gap (h : u.sparkCond = false) : (failAnswered tag u).gap = u.gap := by
  have hcond : (postTarget u).sparkCond = false := h
  rw [failAnswered, replied, answerWith_gap, drive_gap_of_no_rise fun _ => hcond, postTarget, post_gap]

theorem get?_raw_failAnswered_target {l : Link} (hl : l = .motion ∨ l = .thread) :
    Table.get? ((failAnswered tag u).link l).raw 4 = some (.target u.planner.target u.planner.lastStopped) := by
  rw [failAnswered, replied_raw, drive_raw, get?_raw_postTarget u hl]

theorem get?_raw_failAnswered_other (l : Link) {b : Nat} (h : b ≠ 4) :
    Table.get? ((failAnswered tag u).link l).raw b = Table.get? (u.link l).raw b := by
  rw [failAnswered, replied_raw, drive_raw, get?_raw_postTarget_other u l h]

theorem failAnswered_reply {r : Run} (h : u.run = some r) :
    (failAnswered tag u).thread.busy.bind (·.reply) =
      some (frameOf 0xA1 tag (threadDoneFailBody r u.planner.target)) := by
  have hbody : ofRun u (fun r => threadDoneFailBody r u.planner.target) = threadDoneFailBody r u.planner.target := by
    simp [ofRun, h]
  rw [← hbody]
  rfl

end

theorem exec_threadDone_of_fail (tag : Byte) {q : ThreadDoneReq} {g : Target} {s : State}
    (h : Serves .thread .threadDone s) (hq : q.number < 256) (hr : q.result = 1) (ht : s.planner.target = some g)
    (hn : g.number = q.number) (hb : g.begun = true)
    (hw : ∀ w, s.planner.withdrawn = some w → w.number ≠ q.number) :
    exec (.threadDone tag q.body) s = .next (failAnswered tag (failReplanned g s)) := by
  rw [exec_threadDone tag h hq (by omega), threadDone_of_posted (by omega) hw, donePosted_of_fail ht hn hb hr,
    finish_accepted, doneFail_def]
  rfl

/-- A target is posted in AWAIT_THREAD and BROKEN alone (R131). -/
theorem phase_of_target {s : State} {g : Target} {run : Run} (h : RunCoherent s) (ht : s.planner.target = some g)
    (hrun : s.run = some run) : run.phase = .awaitThread ∨ run.phase = .broken := by
  obtain ⟨-, htarget, -⟩ := h
  obtain ⟨r, hr, hp⟩ := htarget.mp (by rw [ht]; rfl)
  obtain rfl : run = r := Option.some_inj.mp (hrun.symm.trans hr)
  exact hp

/-- Where R128 posts a target. -/
theorem failReplanned_of_target {g : Target} {run : Run} {s x : State} {purpose : Purpose} {place : Place}
    {point : Point} {plan : Option Plan} {r : Run}
    (hu : failReplanned g s = setTarget purpose place run.contour point x)
    (hcounter : x.planner.counter = s.planner.counter) (hx : x.run = some { run with plan := plan })
    (hr : (failReplanned g s).run = some r) :
    (failReplanned g s).planner.target =
      some ⟨nextTargetNumber s.planner.counter, purpose, place, run.contour, point, false⟩ ∧
    r.plan = plan ∧ r.phase = run.phase := by
  have hsame : (setTarget purpose place run.contour point x).run = x.run := rfl
  rw [hu, hsame, hx, Option.some_inj] at hr
  rw [hu, ← hcounter, ← hr]
  exact ⟨rfl, rfl, rfl⟩

section
variable {g : Target} {run : Run} {s : State} (ht : s.planner.target = some g) (hrun : s.run = some run)

include ht in
theorem failCounted_run : (failCounted g s).run = s.run := by
  obtain ⟨holes, kerf, h⟩ := failCounted_eq ht
  rw [h]

include ht hrun

theorem failReplanned_outcome : Replanned g.purpose run (failCounted g s) (failReplanned g s) :=
  replan_replanned g.purpose ((failCounted_run ht).trans hrun)

/-- All that a failed attempt writes: the holes, the run's phase and plan, the window's mark, the planner but its wire
record, and the links. -/
theorem failReplanned_eq :
    ∃ holes phase plan eligible counter target withdrawn kerf m u c, failReplanned g s = { s with
      plate := { s.plate with holes := holes }
      run := some { run with phase := phase, plan := plan }
      gap := { s.gap with eligible := eligible }
      planner := { s.planner with
        counter := counter, target := target, withdrawn := withdrawn, kerf := kerf
        lastStopped := some (g.number, .failed) }
      motion := m, thread := u, cell := c } ∧
    ((target.isSome = true ∧ phase = run.phase) ∨ (target = none ∧ phase = .stranded)) := by
  obtain ⟨holes, kerf, hcounted⟩ := failCounted_eq ht
  obtain ⟨phase, plan, eligible, counter, target, withdrawn, m, u, c, h, hends⟩ :=
    (failReplanned_outcome ht hrun).writes ((failCounted_run ht).trans hrun)
  rw [hcounted] at h hends
  exact ⟨holes, phase, plan, eligible, counter, target, withdrawn, kerf, m, u, c, by rw [h], hends⟩

theorem kept_failReplanned : Kept s (failReplanned g s) := by
  obtain ⟨holes, kerf, hcounted⟩ := failCounted_eq ht
  have hfirst : Kept s (failCounted g s) := by
    rw [hcounted]
    exact kept_refl s
  exact kept_trans hfirst ((failReplanned_outcome ht hrun).kept ((failCounted_run ht).trans hrun))

theorem failReplanned_kerf : (failReplanned g s).planner.kerf = (failCounted g s).planner.kerf := by
  obtain ⟨_, _, _, _, _, _, _, _, _, h, -⟩ :=
    (failReplanned_outcome ht hrun).writes ((failCounted_run ht).trans hrun)
  rw [h]

/-- Where R128 strands the run. -/
theorem failReplanned_of_strand {occasion : Occasion} {r : Run}
    (hu : failReplanned g s = strand occasion (failCounted g s))
    (hr : (failReplanned g s).run = some r) :
    (failReplanned g s).planner.target = none ∧ r.plan = none ∧ r.phase = .stranded ∧
      ∀ l, l = .motion ∨ l = .cell → Table.get? ((failReplanned g s).link l).raw 5 =
        some (.stranded run.number run.contour run.hole occasion) := by
  obtain ⟨holes, kerf, hcounted⟩ := failCounted_eq ht
  have hrun' : (failCounted g s).run = some run := (failCounted_run ht).trans hrun
  have htarget : (failCounted g s).planner.target = none := by rw [hcounted]
  rw [hu, strand_eq occasion hrun', post_run, post_run, Option.some_inj] at hr
  rw [hu, strand_planner, ← hr]
  exact ⟨htarget, rfl, rfl, fun l hl => get?_raw_strand_stranded occasion hrun' hl⟩

section
variable {r : Run} (hr : (failReplanned g s).run = some r)
include hr

/-- A RESUME target gives way to the one of the plan (R128). -/
theorem failReplanned_of_plan (hg : g.purpose = .resume) {p : Plan}
    (hp : run.brk.bind (choosePlan (failCounted g s) run) = some p) :
    (failReplanned g s).planner.target =
      some ⟨nextTargetNumber s.planner.counter, .resume, p.place, run.contour, p.target, false⟩ ∧
    r.plan = some p ∧ r.phase = run.phase := by
  obtain ⟨holes, kerf, hcounted⟩ := failCounted_eq ht
  have hrun' : (failCounted g s).run = some run := (failCounted_run ht).trans hrun
  refine failReplanned_of_target (x := { failCounted g s with run := some { run with plan := some p } }) ?_
    (by rw [hcounted]) rfl hr
  rw [failReplanned, hg, replan_resume hrun', planResume_of_plan hrun' hp]

/-- Without a plan the run is stranded with NO_PLAN (R120, R128). -/
theorem failReplanned_of_no_plan (hg : g.purpose = .resume)
    (hp : run.brk.bind (choosePlan (failCounted g s) run) = none) :
    (failReplanned g s).planner.target = none ∧ r.plan = none ∧ r.phase = .stranded ∧
      ∀ l, l = .motion ∨ l = .cell → Table.get? ((failReplanned g s).link l).raw 5 =
        some (.stranded run.number run.contour run.hole .noPlan) := by
  have hrun' : (failCounted g s).run = some run := (failCounted_run ht).trans hrun
  refine failReplanned_of_strand ht hrun ?_ hr
  rw [failReplanned, hg, replan_resume hrun', planResume_of_none hrun' hp]

variable {hole : Hole} (hg : g.purpose = .start) (hh : (failCounted g s).hole? run.hole = some hole)
include hg hh

/-- A START target gives way to another one at the run's hole, while that is OPEN (R128). -/
theorem failReplanned_of_open (ho : hole.lv.state = .opened) :
    r.phase = run.phase ∧ (failReplanned g s).planner.target =
      some ⟨nextTargetNumber s.planner.counter, .start, .hole run.hole, run.contour, hole.centre, false⟩ := by
  obtain ⟨holes, kerf, hcounted⟩ := failCounted_eq ht
  have hrun' : (failCounted g s).run = some run := (failCounted_run ht).trans hrun
  obtain ⟨htarget, -, hphase⟩ := failReplanned_of_target (x := failCounted g s) (plan := run.plan)
    (by rw [failReplanned, hg, replan_start_of_open hrun' hh ho]) (by rw [hcounted]) hrun' hr
  exact ⟨hphase, htarget⟩

/-- Otherwise the run is stranded with START_BLOCKED (R120, log 36). -/
theorem failReplanned_of_not_open (ho : hole.lv.state ≠ .opened) :
    (failReplanned g s).planner.target = none ∧ r.phase = .stranded ∧
      ∀ l, l = .motion ∨ l = .cell → Table.get? ((failReplanned g s).link l).raw 5 =
        some (.stranded run.number run.contour run.hole .startBlocked) := by
  have hrun' : (failCounted g s).run = some run := (failCounted_run ht).trans hrun
  have hno : ∀ e, (failCounted g s).hole? run.hole = some e → e.lv.state ≠ .opened := by
    intro e he
    obtain rfl : hole = e := Option.some_inj.mp (hh.symm.trans he)
    exact ho
  obtain ⟨htarget, -, hphase, hevent⟩ :=
    failReplanned_of_strand ht hrun (by rw [failReplanned, hg, replan_start_of_not_open hrun' hno]) hr
  exact ⟨htarget, hphase, hevent⟩

end

end

section
variable {g : Target} {s : State} (ht : s.planner.target = some g) {h : Nat} (hp : g.place = .hole h)
include ht hp

/-- A failure at a hole is counted there (R127). -/
theorem hole?_failCounted_same {hole : Hole} {v : HoleLive} (hh : s.hole? h = some hole) (hv : hole.live = some v) :
    (failCounted g s).hole? h = some { hole with live := some (failedAt s.cfg.holeLimit v) } := by
  rw [State.hole?] at hh
  rw [failCounted_of_hole ht hp, State.hole?, get?_modify_same, hh, Option.map_some, hv, Option.map_some]

theorem hole?_failCounted_other {k : Nat} (hk : k ≠ h) : (failCounted g s).hole? k = s.hole? k := by
  rw [failCounted_of_hole ht hp, State.hole?, get?_modify_other _ _ hk, State.hole?]

end

theorem hole?_failAnswered (tag : Byte) (g : Target) (s : State) (k : Nat) :
    (failAnswered tag (failReplanned g s)).hole? k = (failCounted g s).hole? k := by
  rw [State.hole?, failAnswered_plate, replan_plate, State.hole?]

/-- Settles O34: the failed attempt counted and planned again, then the cases of R125. -/
theorem threadDoneFailAndWithdrawn : Obligations.ThreadDoneFailAndWithdrawn := by
  unfold Obligations.ThreadDoneFailAndWithdrawn
  refine ⟨?failed, fun tag q w s h hq hr hw hn => ?withdrawn, fun tag q s h hq hr => ?refused⟩
  case failed =>
    intro tag q g run s h hcoherent hq hr ht hn hb hw hrun
    obtain ⟨holes, phase, plan, eligible, counter, target, withdrawn, kerf, m, u, c, hu, hends⟩ :=
      failReplanned_eq ht hrun
    have hrunAfter : (failReplanned g s).run = some { run with phase := phase, plan := plan } := by rw [hu]
    have hchoose : choosePlan (failAnswered tag (failReplanned g s)) run = choosePlan (failCounted g s) run :=
      choosePlan_congr (by rw [failAnswered_plate, replan_plate])
        (by rw [failAnswered_planner, failReplanned_kerf ht hrun]) (by rw [failAnswered_cfg, replan_cfg]) run
    have hspark : (failReplanned g s).sparkCond = false := by
      have hwaits : run.phase.sparks = false := by
        obtain hp | hp := phase_of_target hcoherent ht hrun <;> rw [hp] <;> rfl
      refine sparkCond_of_run hrunAfter ?_
      obtain ⟨-, rfl⟩ | ⟨-, rfl⟩ := hends
      · exact hwaits
      · rfl
    have hstranded (l : Link) := get?_raw_failAnswered_other tag (failReplanned g s) l (b := 5) (by decide)
    obtain ⟨-, hprog, -, -, hcatch, htrace, ⟨hlast, hcounter⟩, hkept⟩ :=
      othersKept_failAnswered tag (failReplanned g s)
    refine ⟨failAnswered tag (failReplanned g s), { run with phase := phase, plan := plan },
      exec_threadDone_of_fail tag h hq hr ht hn hb hw, by rw [failAnswered_run, hrunAfter], ?ends,
      fun hg p hp => ?plan, fun hg hp => ?noPlan, fun hg hole hh => ⟨fun ho => ?opened, fun ho => ?notOpen⟩,
      fun l hl => ?target, ?reply, by rw [failAnswered_planner, hu], by rw [failAnswered_planner, hu],
      fun hp => ⟨?kerf, ?plate⟩, fun k hp => ⟨?sameKerf, fun j hj => ?otherHole, ?contours, fun hole v hh hv => ?hole⟩,
      rfl, rfl, rfl, rfl, ?prog, ?catchSet, ?trace, ?setup, ?history,
      kept_trans (kept_failReplanned ht hrun) hkept, ?gap⟩
    case ends =>
      rw [failAnswered_planner, hu]
      exact hends
    case plan =>
      rw [hchoose] at hp
      rw [failAnswered_planner]
      exact failReplanned_of_plan ht hrun hrunAfter hg hp
    case noPlan =>
      rw [hchoose] at hp
      simp only [failAnswered_planner, hstranded]
      exact failReplanned_of_no_plan ht hrun hrunAfter hg hp
    case opened =>
      rw [hole?_failAnswered] at hh
      rw [failAnswered_planner]
      exact failReplanned_of_open ht hrun hrunAfter hg hh ho
    case notOpen =>
      rw [hole?_failAnswered] at hh
      simp only [failAnswered_planner, hstranded]
      exact failReplanned_of_not_open ht hrun hrunAfter hg hh ho
    case target =>
      rw [get?_raw_failAnswered_target _ _ hl, failAnswered_planner, hu]
    case reply =>
      rw [failAnswered_reply _ _ hrunAfter, failAnswered_planner]
      rfl
    case kerf => rw [failAnswered_planner, failReplanned_kerf ht hrun, failCounted_of_kerf ht hp]
    case plate => rw [failAnswered_plate, replan_plate, failCounted_of_kerf ht hp]
    case sameKerf => rw [failAnswered_planner, failReplanned_kerf ht hrun, failCounted_of_hole ht hp]
    case otherHole => rw [hole?_failAnswered, hole?_failCounted_other ht hp hj]
    case contours => rw [failAnswered_plate, hu]
    case hole =>
      rw [hole?_failAnswered, hole?_failCounted_same ht hp hh hv]
      rfl
    case prog => rw [hprog, hu]
    case catchSet => rw [hcatch, hu]
    case trace => rw [htrace, hu]
    case setup => exact ⟨by rw [failAnswered_cfg, hu], by rw [failAnswered_axisX, hu], by rw [failAnswered_axisY, hu]⟩
    case history => exact ⟨by rw [hlast, hu], by rw [hcounter, hu]⟩
    case gap => rw [failAnswered_gap _ _ hspark, hu]
  case withdrawn =>
    rw [exec_threadDone tag h hq (by omega), threadDone_of_withdrawn hr hw hn, doneWithdrawn_eq]
    rfl
  case refused =>
    intro refused
    have refusedBy {st : Status} (he : threadDone q s = refuse st s) : refused st.code := by
      show exec (.threadDone tag q.body) s = _
      rw [exec_threadDone tag h hq hr, he, finish_refuse]
    refine ⟨fun h1 => refusedBy (threadDone_of_range h1), fun h1 hw => ⟨fun ht => ?_, fun g ht =>
      ⟨fun hn => ?_, fun hn hb => ?_⟩⟩⟩
    · exact refusedBy ((threadDone_of_posted h1 hw).trans (donePosted_of_none ht))
    · exact refusedBy ((threadDone_of_posted h1 hw).trans (donePosted_of_number ht hn))
    · exact refusedBy ((threadDone_of_posted h1 hw).trans (donePosted_of_not_begun ht hn hb))

/-! ### BREAK_IN: the cases of R116 -/

section
variable {s : State} (h : s.resetLow = false)
include h

theorem exec_breakIn_of_no_run (hrun : s.run = none) : exec .breakIn s = .next (drive (breakNoRun s)) := by
  have hin : breakIn s = drive (breakNoRun s) := by simp [breakIn, h, hrun]
  exact congrArg Host.Outcome.next hin

variable {run : Run} (hrun : s.run = some run)
include hrun

theorem exec_breakIn_of_unwired (hp : run.phase.unwired = true) :
    exec .breakIn s = .next (drive (breakCounted run s)) := by
  have hin : breakIn s = drive (breakCounted run s) := by simp [breakIn, h, hrun, hp]
  exact congrArg Host.Outcome.next hin

theorem exec_breakIn_of_wired (hp : run.phase.unwired = false) :
    exec .breakIn s = .next (drive (breakCaptured run s)) := by
  have hin : breakIn s = drive (breakCaptured run s) := by simp [breakIn, h, hrun, hp]
  exact congrArg Host.Outcome.next hin

end

theorem breakNoRun_eq (s : State) : breakNoRun s =
    post (.brk ⟨none, none, none, s.pos, none, none, none, some s.planner.wire⟩) (wireNone s) := rfl

theorem breakCounted_eq (run : Run) (s : State) : breakCounted run s =
    post (.brk ⟨some run.number, some run.phase, none, s.pos, none, none, some (min 255 (run.breaks + 1)), none⟩)
      { wireNone s with run := some { run with breaks := min 255 (run.breaks + 1) } } := rfl

/-- BREAK stands on every link after a posting of it and the outputs' following (Table 10-2). -/
theorem get?_raw_break (d : BreakDetail) (u : State) (l : Link) :
    Table.get? ((drive (post (.brk d) u)).link l).raw 3 = some (.brk d) := by
  have hr : (routed l).getLsbD 3 = true := by cases l <;> decide
  rw [drive_raw]
  exact get?_raw_post_same (.brk d) u hr (by simp [Event.bit])

theorem get?_raw_break_other (d : BreakDetail) (u : State) (l : Link) {b : Nat} (h : b ≠ 3) :
    Table.get? ((drive (post (.brk d) u)).link l).raw b = Table.get? (u.link l).raw b := by
  rw [drive_raw]
  exact get?_raw_post_other (.brk d) u l h

/-- What a break leaves alone in every phase. -/
def BreakKept (s t : State) : Prop :=
  t.prog = s.prog ∧ t.plate = s.plate ∧ t.catchSet = s.catchSet ∧ t.trace = s.trace ∧ SetupKept s t ∧
    HistoryKept s t ∧ Kept s t

theorem breakKept_trans {s t u : State} (hst : BreakKept s t) (htu : BreakKept t u) : BreakKept s u := by
  obtain ⟨hprog, hplate, hcatch, htrace, ⟨hcfg, hx, hy⟩, ⟨hlast, hcounter⟩, hkept⟩ := hst
  obtain ⟨hprog', hplate', hcatch', htrace', ⟨hcfg', hx', hy'⟩, ⟨hlast', hcounter'⟩, hkept'⟩ := htu
  exact ⟨hprog'.trans hprog, hplate'.trans hplate, hcatch'.trans hcatch, htrace'.trans htrace,
    ⟨hcfg'.trans hcfg, hx'.trans hx, hy'.trans hy⟩, ⟨hlast'.trans hlast, hcounter'.trans hcounter⟩,
    kept_trans hkept hkept'⟩

theorem breakKept_post (e : Event) (s : State) : BreakKept s (post e s) :=
  ⟨post_prog .., post_plate .., post_catchSet .., post_trace .., ⟨post_cfg .., post_axisX .., post_axisY ..⟩,
    ⟨post_lastRun .., post_runCounter ..⟩, kept_post ..⟩

theorem breakKept_drive (s : State) : BreakKept s (drive s) :=
  ⟨drive_prog _, drive_plate _, drive_catchSet _, drive_trace _, ⟨drive_cfg _, drive_axisX _, drive_axisY _⟩,
    ⟨drive_lastRun _, drive_runCounter _⟩, kept_drive _⟩

theorem breakKept_planResume {s : State} {run : Run} (hrun : s.run = some run) : BreakKept s (planResume s) :=
  ⟨planResume_prog _, planResume_plate _, planResume_catchSet _, planResume_trace _,
    ⟨planResume_cfg _, planResume_axisX _, planResume_axisY _⟩, ⟨planResume_lastRun _, planResume_runCounter _⟩,
    (planResume_replanned hrun).kept hrun⟩

/-- Once the wire record is NONE and the rest is kept, BREAK is posted and the outputs follow. -/
theorem break_posted {s u : State} (d : BreakDetail) (hwire : u.planner.wire = .none) (h : BreakKept s u) :
    (drive (post (.brk d) u)).planner.wire = .none ∧
      (∀ l, ∃ d', Table.get? ((drive (post (.brk d) u)).link l).raw 3 = some (.brk d')) ∧
      BreakKept s (drive (post (.brk d) u)) := by
  have hplanner : (drive (post (.brk d) u)).planner = u.planner := by rw [drive_planner, post_planner]
  exact ⟨by rw [hplanner, hwire], fun l => ⟨d, get?_raw_break d u l⟩,
    breakKept_trans h (breakKept_trans (breakKept_post ..) (breakKept_drive _))⟩

/-! ### A capture (R117) -/

/-- The break record of a capture. -/
def captureRecord (run : Run) (s : State) : BreakRecord := ⟨run.phase, s.prog.path, s.pos, s.prog.r, s.prog.a⟩

/-- The run as it is captured, before its resume is planned. -/
def capturedRun (run : Run) (s : State) : Run :=
  { run with halt := none, brk := some (captureRecord run s), breaks := min 255 (run.breaks + 1), phase := .broken }

/-- The state from which a capture plans the resume: steps 1 to 6 of R117 done. -/
def captured (run : Run) (s : State) : State :=
  (setPhase .broken { abandonSample (wireNone s) with
    run := some { run with
      halt := none, brk := some (captureRecord run s), breaks := min 255 (run.breaks + 1) } }).modPlanner
    (fun p => { p with kerf := some 0 })

/-- The BREAK detail of a capture (R116). -/
def captureDetail (run : Run) (s : State) : BreakDetail :=
  ⟨some run.number, some run.phase, some s.prog.path, s.pos, some s.prog.r, some s.prog.a,
    some (min 255 (run.breaks + 1)), none⟩

section
variable (run : Run) (s : State)

/-- All that a capture writes before the resume is planned. -/
theorem captured_eq : ∃ sampling presence, captured run s = post (.runPhase run.number (.phase .broken)) { s with
    run := some (capturedRun run s)
    planner := { s.planner with wire := .none, kerf := some 0 }
    sampling := sampling
    gap := { s.gap with presence := presence, eligible := false } } := by
  obtain ⟨sampling, presence, h⟩ := abandonSample_eq (wireNone s)
  refine ⟨sampling, presence, ?_⟩
  rw [captured, h]
  rfl

theorem captured_run : (captured run s).run = some (capturedRun run s) := by
  obtain ⟨sampling, presence, h⟩ := captured_eq run s
  rw [h, post_run]

theorem captured_planner : (captured run s).planner = { s.planner with wire := .none, kerf := some 0 } := by
  obtain ⟨sampling, presence, h⟩ := captured_eq run s
  rw [h, post_planner]

theorem breakKept_captured : BreakKept s (captured run s) := by
  obtain ⟨sampling, presence, h⟩ := captured_eq run s
  rw [h]
  exact breakKept_trans ⟨rfl, rfl, rfl, rfl, ⟨rfl, rfl, rfl⟩, ⟨rfl, rfl⟩, kept_refl s⟩ (breakKept_post ..)

/-- RUN_PHASE stands with BROKEN on the Motion Link and the Cell Link (R64). -/
theorem get?_raw_captured_phase {l : Link} (hl : l = .motion ∨ l = .cell) :
    Table.get? ((captured run s).link l).raw 0 = some (.runPhase run.number (.phase .broken)) := by
  have hr : (routed l).getLsbD 0 = true := by rcases hl with rfl | rfl <;> decide
  obtain ⟨sampling, presence, h⟩ := captured_eq run s
  rw [h]
  exact get?_raw_post_same (.runPhase ..) _ hr (by simp [Event.bit])

/-- The plan that a capture finds: the kerf attempts begin at 0 (R117, R118). -/
def capturePlan (run : Run) (s : State) : Option Plan :=
  choosePlan { s with planner := { s.planner with wire := .none, kerf := some 0 } } run (captureRecord run s)

theorem capturePlan_eq :
    (capturedRun run s).brk.bind (choosePlan (captured run s) (capturedRun run s)) = capturePlan run s := by
  obtain ⟨sampling, presence, h⟩ := captured_eq run s
  rw [choosePlan_congr (t := captured run s)
    (s := { s with planner := { s.planner with wire := .none, kerf := some 0 } }) (by rw [h]; rfl) (by rw [h]; rfl)
    (by rw [h]; rfl)]
  rfl

/-! #### The state with the resume planned (R117, step 7) -/

/-- The phase that a capture ends in. -/
def capturePhase (plan : Option Plan) : Phase := if plan.isSome then .broken else .stranded

theorem planResume_captured_of_plan {p : Plan} (hp : capturePlan run s = some p) :
    planResume (captured run s) = setTarget .resume p.place run.contour p.target { captured run s with
      run := some { capturedRun run s with plan := some p } } :=
  planResume_of_plan (captured_run run s) ((capturePlan_eq run s).trans hp)

theorem planResume_captured_of_none (hp : capturePlan run s = none) :
    planResume (captured run s) = strand .noPlan (captured run s) :=
  planResume_of_none (captured_run run s) ((capturePlan_eq run s).trans hp)

theorem planResume_captured_run : (planResume (captured run s)).run =
    some { capturedRun run s with phase := capturePhase (capturePlan run s), plan := capturePlan run s } := by
  cases hp : capturePlan run s with
  | some p =>
    rw [planResume_captured_of_plan run s hp]
    rfl
  | none =>
    rw [planResume_captured_of_none run s hp, strand_eq _ (captured_run run s)]
    rfl

/-- Planning again writes the number counter, the target and the withdrawn memory of the planner at most. -/
theorem planResume_captured_planner : ∃ counter target withdrawn,
    (planResume (captured run s)).planner = { s.planner with
      wire := .none, kerf := some 0, counter := counter, target := target, withdrawn := withdrawn } := by
  obtain ⟨_, _, _, counter, target, withdrawn, _, _, _, h, -⟩ :=
    (planResume_replanned (captured_run run s)).writes (captured_run run s)
  exact ⟨counter, target, withdrawn, by rw [h, captured_planner]⟩

/-- The target of a capture, where none was posted before (R119, R121). -/
theorem planResume_captured_target (ht : s.planner.target = none) :
    (planResume (captured run s)).planner.target = (capturePlan run s).map (fun p =>
      ⟨nextTargetNumber s.planner.counter, .resume, p.place, run.contour, p.target, false⟩) := by
  have hplanner := captured_planner run s
  cases hp : capturePlan run s with
  | some p =>
    have hcounter : (captured run s).planner.counter = s.planner.counter := by rw [hplanner]
    rw [planResume_captured_of_plan run s hp, ← hcounter]
    rfl
  | none =>
    rw [planResume_captured_of_none run s hp, strand_planner, hplanner]
    exact ht

theorem get?_raw_planResume_captured_phase {l : Link} (hl : l = .motion ∨ l = .cell) :
    Table.get? ((planResume (captured run s)).link l).raw 0 =
      some (.runPhase run.number (.phase (capturePhase (capturePlan run s)))) := by
  cases hp : capturePlan run s with
  | some p =>
    rw [planResume_captured_of_plan run s hp]
    refine Eq.trans ?_ (get?_raw_captured_phase run s hl)
    cases l <;> rfl
  | none =>
    rw [planResume_captured_of_none run s hp]
    exact get?_raw_strand_phase .noPlan (captured_run run s) hl

theorem get?_raw_planResume_captured_stranded (hp : capturePlan run s = none) {l : Link}
    (hl : l = .motion ∨ l = .cell) : Table.get? ((planResume (captured run s)).link l).raw 5 =
      some (.stranded run.number run.contour run.hole .noPlan) := by
  rw [planResume_captured_of_none run s hp]
  exact get?_raw_strand_stranded .noPlan (captured_run run s) hl

theorem breakKept_planResume_captured : BreakKept s (planResume (captured run s)) :=
  breakKept_trans (breakKept_captured run s) (breakKept_planResume (captured_run run s))

end

/-- TARGET is posted where a target is (R121). -/
def targetPosted (u : State) : State := if u.planner.target.isSome then postTarget u else u

theorem breakCaptured_eq (run : Run) (s : State) : breakCaptured run s =
    post (.brk (captureDetail run s)) (targetPosted (planResume (captured run s))) := rfl

section
variable (u : State)

theorem targetPosted_run : (targetPosted u).run = u.run := by
  unfold targetPosted
  split <;> rfl

theorem targetPosted_planner : (targetPosted u).planner = u.planner := by
  unfold targetPosted
  split <;> rfl

theorem breakKept_targetPosted {s : State} (h : BreakKept s u) : BreakKept s (targetPosted u) := by
  unfold targetPosted
  split
  · exact breakKept_trans h (breakKept_post ..)
  · exact h

theorem get?_raw_targetPosted_other (l : Link) {b : Nat} (h : b ≠ 4) :
    Table.get? ((targetPosted u).link l).raw b = Table.get? (u.link l).raw b := by
  unfold targetPosted
  split
  · exact get?_raw_postTarget_other u l h
  · rfl

theorem get?_raw_targetPosted (ht : u.planner.target.isSome = true) {l : Link} (hl : l = .motion ∨ l = .thread) :
    Table.get? ((targetPosted u).link l).raw 4 = some (.target u.planner.target u.planner.lastStopped) := by
  rw [targetPosted, if_pos ht, get?_raw_postTarget u hl]

end

/-- A break in each of the phases makes the wire record NONE, posts BREAK and leaves the rest alone (R116). -/
theorem break_recorded {s : State} (h : s.resetLow = false) :
    ∃ t, exec .breakIn s = .next t ∧ t.planner.wire = .none ∧
      (∀ l, ∃ d, Table.get? (t.link l).raw 3 = some (.brk d)) ∧ BreakKept s t := by
  have hkept (r : Option Run) : BreakKept s { wireNone s with run := r } :=
    ⟨rfl, rfl, rfl, rfl, ⟨rfl, rfl, rfl⟩, ⟨rfl, rfl⟩, kept_refl s⟩
  cases hrun : s.run with
  | none =>
    refine ⟨_, exec_breakIn_of_no_run h hrun, ?_⟩
    rw [breakNoRun_eq]
    exact break_posted _ rfl (hkept s.run)
  | some run =>
    cases hp : run.phase.unwired with
    | true =>
      refine ⟨_, exec_breakIn_of_unwired h hrun hp, ?_⟩
      rw [breakCounted_eq]
      exact break_posted _ rfl (hkept _)
    | false =>
      obtain ⟨_, _, _, hplanner⟩ := planResume_captured_planner run s
      refine ⟨_, exec_breakIn_of_wired h hrun hp, ?_⟩
      rw [breakCaptured_eq]
      exact break_posted _ (by rw [targetPosted_planner, hplanner])
        (breakKept_targetPosted _ (breakKept_planResume_captured run s))

/-- Settles O35: what every break does, then the three cases by the run's phase. -/
theorem breakInIsRecordedCountedOrCaptured : Obligations.BreakInIsRecordedCountedOrCaptured := by
  unfold Obligations.BreakInIsRecordedCountedOrCaptured
  refine ⟨fun s h => break_recorded h, fun s h hrun => ?noRun, fun run s h hrun hp => ?counted,
    fun run s h hrun ht hp => ?captured⟩
  case noRun =>
    refine ⟨_, exec_breakIn_of_no_run h hrun, ?_⟩
    rw [breakNoRun_eq]
    exact ⟨hrun, by rw [drive_planner, post_planner]; rfl, fun l => get?_raw_break _ _ l⟩
  case counted =>
    refine ⟨_, exec_breakIn_of_unwired h hrun ((unwired_iff _).mpr hp), ?_⟩
    rw [breakCounted_eq]
    exact ⟨by rw [drive_run, post_run], by rw [drive_planner, post_planner]; rfl, fun l => get?_raw_break _ _ l⟩
  case captured =>
    intro record counted plan
    obtain ⟨_, _, _, hplanner⟩ := planResume_captured_planner run s
    have htarget := planResume_captured_target run s ht
    have hafter : (drive (breakCaptured run s)).planner = (planResume (captured run s)).planner := by
      rw [breakCaptured_eq, drive_planner, post_planner, targetPosted_planner]
    have hrunAfter : (drive (breakCaptured run s)).run =
        some { capturedRun run s with phase := capturePhase (capturePlan run s), plan := capturePlan run s } := by
      rw [breakCaptured_eq, drive_run, post_run, targetPosted_run, planResume_captured_run]
    have hevent (l : Link) {b : Nat} (h3 : b ≠ 3) :
        Table.get? ((drive (breakCaptured run s)).link l).raw b =
          Table.get? ((targetPosted (planResume (captured run s))).link l).raw b :=
      get?_raw_break_other _ _ l h3
    refine ⟨_, _, exec_breakIn_of_wired h hrun ((not_unwired_iff _).mpr hp), hrunAfter, rfl, rfl, rfl, rfl,
      by rw [hafter, hplanner], rfl, (congrArg Planner.target hafter).trans htarget, fun l => get?_raw_break _ _ l,
      fun hsome l hl => ?target, fun hnone l hl => ?stranded, fun l hl => ?phase, rfl, rfl, rfl, rfl, rfl, ?spark⟩
    case target =>
      have hposted : (planResume (captured run s)).planner.target.isSome = true := by
        rw [htarget, Option.isSome_map]
        exact hsome
      rw [hevent l (by decide), get?_raw_targetPosted _ hposted hl, hafter, hplanner]
    case stranded =>
      rw [hevent l (by decide), get?_raw_targetPosted_other _ _ (by decide),
        get?_raw_planResume_captured_stranded run s hnone hl]
    case phase =>
      rw [hevent l (by decide), get?_raw_targetPosted_other _ _ (by decide),
        get?_raw_planResume_captured_phase run s hl]
    case spark =>
      rw [drive_sparkOk]
      refine sparkCond_of_run (s := breakCaptured run s) hrunAfter ?_
      show (capturePhase (capturePlan run s)).sparks = false
      unfold capturePhase
      split <;> rfl

end Sys2Proof.Threading
end

section
/-! SUPPORT. SLUG_REMOVED, CONTOUR_VOID and HOLE_RESET (chapters 7 and 8): their checks in order, what a mark and its
evaluation do to a contour, what HOLE_RESET does to a hole. -/

namespace Sys2Proof.Slugs

open Sys2Proof.Machine Sys2Proof.Safety Sys2Proof.AxisPosition Sys2Proof.Runs

theorem exec_slugRemoved (tag b : Byte) {s : State} (h : Serves .cell .slugRemoved s) :
    exec (.slugRemoved tag [b]) s = .next (finish .cell Req.slugRemoved.code tag (slugRemoved b.toNat s)) :=
  congrArg Host.Outcome.next (serve_of_serves tag [b] (parseByte [b]) b.toNat slugRemoved h rfl)

theorem exec_contourVoid (tag b : Byte) {s : State} (h : Serves .cell .contourVoid s) :
    exec (.contourVoid tag [b]) s = .next (finish .cell Req.contourVoid.code tag (contourVoid b.toNat s)) :=
  congrArg Host.Outcome.next (serve_of_serves tag [b] (parseByte [b]) b.toNat contourVoid h rfl)

theorem exec_holeReset (tag b : Byte) {s : State} (h : Serves .cell .holeReset s) :
    exec (.holeReset tag [b]) s = .next (finish .cell Req.holeReset.code tag (holeReset b.toNat s)) :=
  congrArg Host.Outcome.next (serve_of_serves tag [b] (parseByte [b]) b.toNat holeReset h rfl)

/-! ### The checks that SLUG_REMOVED and CONTOUR_VOID share (R138, R139) -/

theorem runOn_iff (s : State) (i : Nat) : s.runOn i = true ↔ ∃ run, s.run = some run ∧ run.contour = i := by
  cases h : s.run <;> simp [State.runOn, h]

theorem lv_of_live {c : Contour} {v : ContourLive} (h : c.live = some v) : c.lv = v := by
  simp [Contour.lv, h]

section
variable {i : Nat} {s : State}

theorem liveContour_of_dead (h : s.plate.state.live = false) : liveContour i s = .error .state := by
  simp [liveContour, h]

variable (hlive : s.plate.state.live = true)
include hlive

theorem liveContour_of_range (h : 63 < i ∨ s.contour? i = none) : liveContour i s = .error .range := by
  obtain hlarge | hnone := h
  · simp [liveContour, hlive, hlarge]
  · simp [liveContour, hlive, hnone]

theorem liveContour_of_defined {c : Contour} (hi : i ≤ 63) (hc : s.contour? i = some c) : liveContour i s = .ok c := by
  simp [liveContour, hlive, Nat.not_lt.mpr hi, hc]

end

theorem slugRemoved_of_error {i : Nat} {s : State} {st : Status} (h : liveContour i s = .error st) :
    slugRemoved i s = refuse st s := by
  simp [slugRemoved, h]

theorem contourVoid_of_error {i : Nat} {s : State} {st : Status} (h : liveContour i s = .error st) :
    contourVoid i s = refuse st s := by
  simp [contourVoid, h]

theorem voidable_iff (r : RState) :
    r.voidable = true ↔ r = .planned ∨ r = .partly ∨ r = .held ∨ r = .suspect := by
  cases r <;> simp [RState.voidable]

theorem not_voidable_iff (r : RState) :
    r.voidable = false ↔ r = .free ∨ r = .loose ∨ r = .removed ∨ r = .void := by
  cases r <;> simp [RState.voidable]

section
variable {i : Nat} {s : State} {c : Contour} {v : ContourLive} (hok : liveContour i s = .ok c)
include hok

theorem slugRemoved_of_run (hrun : s.runOn i = true) : slugRemoved i s = refuse .busy s := by
  simp [slugRemoved, hok, hrun]

theorem contourVoid_of_run (hrun : s.runOn i = true) : contourVoid i s = refuse .busy s := by
  simp [contourVoid, hok, hrun]

variable (hv : c.live = some v) (hrun : ¬ s.runOn i = true)
include hv hrun

theorem slugRemoved_of_state (hf : v.state ≠ .free) (hl : v.state ≠ .loose) : slugRemoved i s = refuse .state s := by
  simp [slugRemoved, hok, hrun, lv_of_live hv, hf, hl]

theorem slugRemoved_of_allowed (h : v.state = .free ∨ v.state = .loose) :
    slugRemoved i s = accepted (removeSlug i s) (fun t => 0 :: natField 1 t.catchSet.length) := by
  have hnot : ¬ (v.state ≠ .free ∧ v.state ≠ .loose) := by
    rintro ⟨hf, hl⟩
    exact h.elim hf hl
  simp only [slugRemoved, hok, lv_of_live hv, if_neg hrun, if_neg hnot]
  rfl

theorem contourVoid_of_state (h : v.state.voidable = false) : contourVoid i s = refuse .state s := by
  simp [contourVoid, hok, hrun, lv_of_live hv, h]

theorem contourVoid_of_allowed (h : v.state.voidable = true) :
    contourVoid i s = accepted (voidContour i s) (fun _ => [0]) := by
  simp [contourVoid, hok, hrun, lv_of_live hv, h, Status.code]

end

/-! ### A mark, and the evaluation that follows it (R134, R138 to R140) -/

/-- The contour's live fields are marked and it leaves the catch set; the evaluation follows. -/
def marked (i : Nat) (f : ContourLive → ContourLive) (s : State) : State :=
  { s.modLive i f with catchSet := s.catchSet.filter (fun k => k != i) }

/-- The removal mark (R138). -/
def removedMark (v : ContourLive) : ContourLive := { v with removed := true }

/-- The void mark (R139). -/
def voidMark (v : ContourLive) : ContourLive := { v with voided := true }

theorem removeSlug_eq (i : Nat) (s : State) : removeSlug i s = evaluate i (marked i removedMark s) := rfl

theorem voidContour_eq (i : Nat) (s : State) : voidContour i s = evaluate i (marked i voidMark s) := rfl

section
variable (i : Nat) (f : ContourLive → ContourLive) (s : State)

/-- The contour is no longer armed. -/
theorem catchArmed_marked : (marked i f s).catchArmed i = false := by
  simp [State.catchArmed, marked]

theorem kept_evaluate_marked : Kept s (evaluate i (marked i f s)) :=
  kept_trans (kept_modLive s i f) (kept_evaluate i (marked i f s))

theorem contour?_evaluate_marked_other {j : Nat} (h : j ≠ i) :
    (evaluate i (marked i f s)).contour? j = s.contour? j := by
  rw [contour?_evaluate_other _ h]
  exact contour?_modLive_other s f h

variable {i f s} {c : Contour} {v : ContourLive} (hc : s.contour? i = some c) (hv : c.live = some v)
include hc hv

theorem contour?_marked : (marked i f s).contour? i = some { c with live := some (f v) } := by
  have hmod := contour?_modLive_same s i f
  rw [hc, Option.map_some, hv, Option.map_some] at hmod
  exact hmod

/-- The marked contour has the state that its own evaluation gives it. -/
theorem contour?_evaluate_marked :
    ∃ d, (evaluate i (marked i f s)).contour? i = some d ∧
      d = { c with live := some { f v with state := d.evaluated false s.cfg.permitLead } } := by
  obtain ⟨d, hd, hstate⟩ := contour?_evaluate_of_live (contour?_marked hc hv) rfl
  rw [catchArmed_marked] at hstate
  exact ⟨d, hd, hstate⟩

/-- CONTOUR_STATE stands with the state that a marked contour has changed to (R140). -/
theorem get?_raw_evaluate_marked (hf : (f v).state = v.state) {d : Contour}
    (hd : (evaluate i (marked i f s)).contour? i = some d) (hne : d.lv.state ≠ v.state) {l : Link}
    (hl : l = .motion ∨ l = .cell) :
    ∃ m, Table.get? ((evaluate i (marked i f s)).link l).raw 7 = some (.contourState m) ∧
      Table.get? m i = some d.lv.state := by
  have hm := contour?_marked (f := f) hc hv
  rw [contour?_evaluate_same hm, withState_of_live rfl, Option.some_inj] at hd
  have hstate : ({ c with live := some (f v) } : Contour).evaluated ((marked i f s).catchArmed i)
      (marked i f s).cfg.permitLead = d.lv.state := by rw [← hd]; rfl
  obtain ⟨-, hchanged⟩ := get?_raw_evaluate_contourState hm hl
  rw [hstate] at hchanged
  exact hchanged fun hsame => hne (hsame.trans hf)

end

/-- A contour with the void mark is VOID whatever else holds (R133). -/
theorem evaluated_of_voided {c : Contour} {v : ContourLive} (hv : c.live = some v) (h : v.voided = true) (armed : Bool)
    (lead : Nat) : c.evaluated armed lead = .void := by
  simp [Contour.evaluated, retentionState, lv_of_live hv, h]

/-- An evaluation that finds the coverage not full leaves the holes (R134). -/
theorem evaluate_holes_of_not_full {i : Nat} {s : State} {c : Contour} (hc : s.contour? i = some c)
    (h : (c.evaluated (s.catchArmed i) s.cfg.permitLead).isFull = false) :
    (evaluate i s).plate.holes = s.plate.holes := by
  by_cases hsame : c.evaluated (s.catchArmed i) s.cfg.permitLead = c.lv.state
  · rw [evaluate_of_same hc hsame]
  · rw [evaluate_of_changed hc hsame, changeRetention_holes, h]
    rfl

/-! ### The state after the request -/

/-- The state after an accepted SLUG_REMOVED or CONTOUR_VOID. -/
def markAnswered (k : Req) (tag : Byte) (body : List Byte) (i : Nat) (f : ContourLive → ContourLive) (s : State) :
    State := replied .cell k tag body (drive (evaluate i (marked i f s)))

section
variable (k : Req) (tag : Byte) (body : List Byte) (i : Nat) (f : ContourLive → ContourLive) (s : State)

theorem markAnswered_plate : (markAnswered k tag body i f s).plate = (evaluate i (marked i f s)).plate := by
  rw [markAnswered, replied, answerWith_plate, drive_plate]

theorem markAnswered_contour? (j : Nat) :
    (markAnswered k tag body i f s).contour? j = (evaluate i (marked i f s)).contour? j := by
  rw [State.contour?, markAnswered_plate, State.contour?]

theorem markAnswered_catchSet :
    (markAnswered k tag body i f s).catchSet = s.catchSet.filter (fun j => j != i) := by
  simp [markAnswered, replied, marked]

theorem markAnswered_raw (l : Link) :
    ((markAnswered k tag body i f s).link l).raw = ((evaluate i (marked i f s)).link l).raw := by
  rw [markAnswered, replied_raw, drive_raw]

theorem markAnswered_reply : (markAnswered k tag body i f s).cell.busy.bind (·.reply) =
    some (frameOf (k.code + 0x80) tag body) := rfl

/-- Beyond the map and the catch set, an accepted request leaves everything but the permits. -/
theorem markAnswered_frame :
    let t := markAnswered k tag body i f s
    t.run = s.run ∧ t.prog = s.prog ∧ t.planner = s.planner ∧ t.trace = s.trace ∧ SetupKept s t ∧
      HistoryKept s t ∧ Kept s t := by
  refine ⟨?_, ?_, ?_, ?_, ⟨?_, ?_, ?_⟩, ⟨?_, ?_⟩,
    kept_trans (kept_evaluate_marked i f s) (kept_trans (kept_drive _) (kept_replied ..))⟩ <;>
    simp [markAnswered, replied, marked]

end

theorem not_runOn {i : Nat} {s : State} (h : ∀ run, s.run = some run → run.contour ≠ i) : ¬ s.runOn i = true := by
  rw [runOn_iff]
  rintro ⟨run, hrun, hcontour⟩
  exact h run hrun hcontour

section
variable (tag : Byte) {b : Byte} {s : State} {c : Contour} {v : ContourLive}

theorem exec_slugRemoved_of_allowed (h : Serves .cell .slugRemoved s) (hlive : s.plate.state.live = true)
    (hb : b.toNat ≤ 63) (hc : s.contour? b.toNat = some c) (hv : c.live = some v) (hoff : ¬ s.runOn b.toNat = true)
    (hstate : v.state = .free ∨ v.state = .loose) :
    exec (.slugRemoved tag [b]) s = .next (markAnswered .slugRemoved tag
      (0 :: natField 1 (s.catchSet.filter (fun j => j != b.toNat)).length) b.toNat removedMark s) := by
  rw [exec_slugRemoved tag b h, slugRemoved_of_allowed (liveContour_of_defined hlive hb hc) hv hoff hstate,
    finish_accepted, removeSlug_eq, drive_catchSet, evaluate_catchSet]
  rfl

theorem exec_contourVoid_of_allowed (h : Serves .cell .contourVoid s) (hlive : s.plate.state.live = true)
    (hb : b.toNat ≤ 63) (hc : s.contour? b.toNat = some c) (hv : c.live = some v) (hoff : ¬ s.runOn b.toNat = true)
    (hstate : v.state.voidable = true) :
    exec (.contourVoid tag [b]) s = .next (markAnswered .contourVoid tag [0] b.toNat voidMark s) := by
  rw [exec_contourVoid tag b h, contourVoid_of_allowed (liveContour_of_defined hlive hb hc) hv hoff hstate,
    finish_accepted, voidContour_eq]
  rfl

end

/-- A voided contour is VOID after its evaluation (R133, R139). -/
theorem contour?_evaluate_voided {i : Nat} {s : State} {c : Contour} {v : ContourLive} (hc : s.contour? i = some c)
    (hv : c.live = some v) :
    (evaluate i (marked i voidMark s)).contour? i =
      some { c with live := some { v with voided := true, state := .void } } := by
  rw [contour?_evaluate_same (contour?_marked hc hv), evaluated_of_voided rfl rfl, withState_of_live rfl]
  rfl

/-- A voided contour's holes stay as they are. -/
theorem evaluate_voided_holes {i : Nat} {s : State} {c : Contour} {v : ContourLive} (hc : s.contour? i = some c)
    (hv : c.live = some v) : (evaluate i (marked i voidMark s)).plate.holes = s.plate.holes := by
  rw [evaluate_holes_of_not_full (contour?_marked hc hv) (by rw [evaluated_of_voided rfl rfl]; rfl)]
  rfl

/-! ### HOLE_RESET (R129) -/

section
variable {i : Nat} {s : State}

theorem holeReset_of_dead (h : s.plate.state.live = false) : holeReset i s = refuse .state s := by
  simp [holeReset, h]

variable (hlive : s.plate.state.live = true)
include hlive

theorem holeReset_of_range (h : 127 < i) : holeReset i s = refuse .range s := by
  simp [holeReset, hlive, h]

variable (hi : i ≤ 127)
include hi

theorem holeReset_of_undefined (h : s.hole? i = none) : holeReset i s = refuse .state s := by
  simp [holeReset, hlive, Nat.not_lt.mpr hi, h]

theorem holeReset_of_defined {h : Hole} {v : HoleLive} (hh : s.hole? i = some h) (hv : h.live = some v) :
    holeReset i s = ({ s with plate := { s.plate with
      holes := Table.set s.plate.holes i { h with live := some v.reopened } } },
      some [0, v.reopened.state.code, 0]) := by
  have hget : Table.get? s.plate.holes i = some h := hh
  have hlv : h.lv = v := by simp [Hole.lv, hv]
  simp only [holeReset, hlive, Nat.not_lt.mpr hi, hh, hlv, State.modHoleLive, State.modHole, Table.modify, hget, hv]
  rfl

end

/-- Settles O43: the marks with their evaluations, the hole opened again, and the checks of the three requests. -/
theorem slugRemovedContourVoidAndHoleReset : Obligations.SlugRemovedContourVoidAndHoleReset := by
  unfold Obligations.SlugRemovedContourVoidAndHoleReset
  refine ⟨fun tag b c v s h hlive hb hc hv hstate hrun => ?removed,
    fun tag b c v s h hlive hb hc hv hstate hrun => ?voided, fun tag b h v s hs hlive hb hh hv => ?reset,
    ?slugRefused, ?voidRefused, ?resetRefused⟩
  case removed =>
    obtain ⟨d, hd, hd'⟩ := contour?_evaluate_marked (f := removedMark) hc hv
    refine ⟨_, d, exec_slugRemoved_of_allowed tag h hlive hb hc hv (not_runOn hrun) hstate,
      by rw [markAnswered_contour?, hd], hd',
      fun i hi => ?_, markAnswered_catchSet .., by rw [markAnswered_catchSet, markAnswered_reply]; rfl,
      fun l hl hne => ?_, markAnswered_frame ..⟩
    · rw [markAnswered_contour?, contour?_evaluate_marked_other _ _ _ hi]
    · rw [markAnswered_raw]
      exact get?_raw_evaluate_marked hc hv rfl hd hne hl
  case voided =>
    have hvoid := contour?_evaluate_voided hc hv
    have hvoidable : v.state.voidable = true := (voidable_iff _).mpr hstate
    have hne : RState.void ≠ v.state := by
      intro hsame
      rw [← hsame] at hvoidable
      exact absurd hvoidable (by decide)
    refine ⟨_, exec_contourVoid_of_allowed tag h hlive hb hc hv (not_runOn hrun) hvoidable,
      by rw [markAnswered_contour?, hvoid],
      fun i hi => ?_, by rw [markAnswered_plate, evaluate_voided_holes hc hv], markAnswered_catchSet ..,
      markAnswered_reply .., fun l hl => ?_, markAnswered_frame ..⟩
    · rw [markAnswered_contour?, contour?_evaluate_marked_other _ _ _ hi]
    · rw [markAnswered_raw]
      exact get?_raw_evaluate_marked hc hv rfl hvoid hne hl
  case reset =>
    intro now
    rw [exec_holeReset tag b hs, holeReset_of_defined hlive hb hh hv, finish_reply]
    rfl
  case slugRefused =>
    intro tag b s h refused onIt
    have refusedBy {st : Status} (he : slugRemoved b.toNat s = refuse st s) : refused st.code := by
      show exec (.slugRemoved tag [b]) s = _
      rw [exec_slugRemoved tag b h, he, finish_refuse]
    refine ⟨fun hl => refusedBy (slugRemoved_of_error (liveContour_of_dead hl)),
      fun hl hr => refusedBy (slugRemoved_of_error (liveContour_of_range hl hr)), fun c v hl hb hc hv =>
        ⟨fun hon => ?_, fun hoff hf hloose => ?_⟩⟩
    · exact refusedBy (slugRemoved_of_run (liveContour_of_defined hl hb hc) ((runOn_iff ..).mpr hon))
    · exact refusedBy (slugRemoved_of_state (liveContour_of_defined hl hb hc) hv (mt (runOn_iff ..).mp hoff) hf hloose)
  case voidRefused =>
    intro tag b s h refused onIt
    have refusedBy {st : Status} (he : contourVoid b.toNat s = refuse st s) : refused st.code := by
      show exec (.contourVoid tag [b]) s = _
      rw [exec_contourVoid tag b h, he, finish_refuse]
    refine ⟨fun hl => refusedBy (contourVoid_of_error (liveContour_of_dead hl)),
      fun hl hr => refusedBy (contourVoid_of_error (liveContour_of_range hl hr)), fun c v hl hb hc hv =>
        ⟨fun hon => ?_, fun hoff hst => ?_⟩⟩
    · exact refusedBy (contourVoid_of_run (liveContour_of_defined hl hb hc) ((runOn_iff ..).mpr hon))
    · exact refusedBy (contourVoid_of_state (liveContour_of_defined hl hb hc) hv (mt (runOn_iff ..).mp hoff)
        ((not_voidable_iff _).mpr hst))
  case resetRefused =>
    intro tag b s h refused
    have refusedBy {st : Status} (he : holeReset b.toNat s = refuse st s) : refused st.code := by
      show exec (.holeReset tag [b]) s = _
      rw [exec_holeReset tag b h, he, finish_refuse]
    exact ⟨fun hl => refusedBy (holeReset_of_dead hl), fun hl hr => refusedBy (holeReset_of_range hl hr),
      fun hl hb hn => refusedBy (holeReset_of_undefined hl hb hn)⟩

end Sys2Proof.Slugs
end

section
/-! SUPPORT. Postings and evaluation (chapters 8 and 10): what a posting leaves on a link, how CONTOUR_STATE merges, and
the rows of R133's list with what the Coverage Unit answers for them. -/

namespace Sys2Proof.Retention

open Sys2Proof.Machine Sys2Proof.Safety Sys2Proof.AxisPosition Sys2Proof.Runs Sys2Proof.Remnants Sys2Proof.Slugs

/-! ### Postings (R153, R140) -/

/-- CONTOUR_STATE alone has bit 7 (Table 10-2). -/
theorem bit_eq_seven_iff (e : Event) : e.bit = 7 ↔ ∃ m, e = .contourState m := by
  cases e <;> simp [Event.bit]

/-- What a kind's flag on a link holds after a posting routed there, whatever the kind. -/
theorem get?_posted_merged (k : LinkState) {l : Link} {e : Event} (hr : (routed l).getLsbD e.bit = true) :
    Table.get? (k.posted l e).raw e.bit = some (mergeDetail (Table.get? k.raw e.bit) e) := by
  simp only [LinkState.posted, hasBit, hr, if_true]
  exact Table.get?_set_same ..

/-- One entry merged into the set a link holds: it stands there with its new state, and the other contours' entries
stay (R140). A link that holds no set takes the entry as its set. -/
theorem mergeDetail_contourState_entry (old : Option Event) (i : Nat) (r : RState) :
    ∃ m, mergeDetail old (.contourState [(i, r)]) = .contourState m ∧ Table.get? m i = some r ∧
      ∀ h, old = some (.contourState h) → ∀ j, j ≠ i → Table.get? m j = Table.get? h j := by
  by_cases hheld : ∃ held, old = some (.contourState held)
  · obtain ⟨held, rfl⟩ := hheld
    refine ⟨Table.set held i r, rfl, Table.get?_set_same .., fun h hh j hj => ?_⟩
    obtain rfl : held = h := Event.contourState.inj (Option.some.inj hh)
    exact Table.get?_set_other _ _ _ _ hj
  · have hnew : mergeDetail old (.contourState [(i, r)]) = .contourState [(i, r)] := by
      unfold mergeDetail
      split
      · rename_i held _ _
        exact absurd ⟨held, rfl⟩ hheld
      · rfl
    exact ⟨_, hnew, if_pos rfl, fun h hh => absurd ⟨h, hh⟩ hheld⟩

/-- Settles O17: a posting acts on each link by itself, where it writes its own kind's flag or nothing. -/
theorem postingFollowsTheRouting : Obligations.PostingFollowsTheRouting := by
  unfold Obligations.PostingFollowsTheRouting
  intro e s l
  refine ⟨?rawAlone, fun b => get?_raw_post_other e s l, ?unrouted, ?detail, ?merged⟩
  case rawAlone =>
    rw [post_link]
    exact posted_eq ..
  case unrouted =>
    intro hr
    rw [post_link, posted_unrouted _ _ _ hr]
  case detail =>
    intro hr hkind
    refine get?_raw_post_same e s hr fun hbit => ?_
    obtain ⟨m, hm⟩ := (bit_eq_seven_iff e).mp hbit
    exact hkind m hm
  case merged =>
    rintro i r rfl hr
    obtain ⟨m, hm, hentry, hothers⟩ := mergeDetail_contourState_entry (Table.get? (s.link l).raw 7) i r
    refine ⟨m, ?_, hentry, hothers⟩
    rw [post_link, ← hm]
    exact get?_posted_merged _ hr

/-! ### The Coverage Unit's answers (R96) -/

theorem empty_iff (c : Contour) (lead : Nat) : (c.answers lead).empty = true ↔ c.lv.coverage = [] :=
  List.isEmpty_iff

theorem empty_eq_false_iff (c : Contour) (lead : Nat) : (c.answers lead).empty = false ↔ c.lv.coverage ≠ [] :=
  Bool.eq_false_iff.trans (not_congr (empty_iff c lead))

theorem allRemnants_iff (c : Contour) (lead : Nat) :
    (c.answers lead).allRemnants = true ↔
      ∀ t ∈ uncovered c.g.loopLen c.lv.coverage, isRemnant c.g.loopLen lead c.protectedTabs t = true :=
  List.all_eq_true

/-- The least of some lengths is under a width exactly where one of them is. -/
theorem least_any_lt_iff (ns : List Nat) (w : Nat) :
    (least ns).any (fun n => decide (n < w)) = true ↔ ∃ n ∈ ns, n < w := by
  simp only [Option.any_eq_true, decide_eq_true_eq, least_eq_some_iff]
  constructor
  · rintro ⟨n, ⟨hn, -⟩, hlt⟩
    exact ⟨n, hn, hlt⟩
  · rintro ⟨m, hm, hlt⟩
    obtain ⟨n, hleast⟩ := Option.isSome_iff_exists.mp (List.isSome_min?_of_mem hm)
    obtain ⟨hn, hle⟩ := (least_eq_some_iff ns n).mp ((least_eq_min? ns).trans hleast)
    exact ⟨n, ⟨hn, hle⟩, Nat.lt_of_le_of_lt (hle m hm) hlt⟩

/-- Where every uncovered stretch is a remnant, a remnant is narrower than w exactly where an uncovered stretch is. -/
theorem shortest_any_lt_iff {c : Contour} {lead : Nat} (w : Nat)
    (hall : ∀ t ∈ uncovered c.g.loopLen c.lv.coverage, isRemnant c.g.loopLen lead c.protectedTabs t = true) :
    (c.answers lead).shortest.any (fun n => decide (n < w)) = true ↔
      ∃ t ∈ uncovered c.g.loopLen c.lv.coverage, t.len < w := by
  simp only [Contour.answers, List.filter_eq_self.mpr hall]
  simp only [least_any_lt_iff, List.mem_map, exists_exists_and_eq_and]

/-! ### The rows of R133's list, for marks and answers -/

section
variable {removed armed tilt : Bool} {w : Nat} {a : Answers}

theorem retentionState_voided : retentionState true removed armed tilt w a = .void := rfl

theorem retentionState_full (h : a.full = true) :
    retentionState false removed armed tilt w a = if removed then .removed else if armed then .free else .loose :=
  if_pos h

theorem retentionState_empty (hfull : a.full = false) (h : a.empty = true) :
    retentionState false removed armed tilt w a = .planned := by
  simp [retentionState, hfull, h]

theorem retentionState_remnants (hfull : a.full = false) (hempty : a.empty = false) (h : a.allRemnants = true) :
    retentionState false removed armed tilt w a =
      if tilt || a.shortest.any (fun n => decide (n < w)) then .suspect else .held := by
  simp [retentionState, hfull, hempty, h]

theorem retentionState_partly (hfull : a.full = false) (hempty : a.empty = false) (h : a.allRemnants = false) :
    retentionState false removed armed tilt w a = .partly := by
  simp [retentionState, hfull, hempty, h]

end

/-- Settles O44: row by row of R133's list, each row's test being an answer of R96 or a mark of the entry. -/
theorem evaluationFollowsTheTable : Obligations.EvaluationFollowsTheTable := by
  unfold Obligations.EvaluationFollowsTheTable
  intro c armed lead v hv a
  obtain rfl := lv_of_live hv
  unfold Contour.evaluated
  refine ⟨fun hvoid => ?void, fun hvoid hfull hrem => ?removed, fun hvoid hfull hrem harm => ?free,
    fun hvoid hfull hrem harm => ?loose, fun hvoid hfull hcov => ?planned,
    fun hvoid hfull hcov => ⟨fun hall => ?remnants, fun hsome => ?partly⟩⟩
  case void => rw [hvoid, retentionState_voided]
  case removed => rw [hvoid, retentionState_full hfull, if_pos hrem]
  case free => rw [hvoid, retentionState_full hfull, if_neg (by simp [hrem]), if_pos harm]
  case loose => rw [hvoid, retentionState_full hfull, if_neg (by simp [hrem]), if_neg (by simp [harm])]
  case planned => rw [hvoid, retentionState_empty hfull ((empty_iff c lead).mpr hcov)]
  case remnants =>
    have hnarrow : a.shortest.any (fun n => decide (n < c.width)) = true ↔
        ∃ t ∈ uncovered c.g.loopLen c.lv.coverage, t.len < c.width := shortest_any_lt_iff c.width hall
    rw [hvoid, retentionState_remnants hfull ((empty_eq_false_iff c lead).mpr hcov) ((allRemnants_iff c lead).mpr hall)]
    simp only [Bool.or_eq_true, hnarrow]
  case partly =>
    obtain ⟨t, ht, hnot⟩ := hsome
    have hnotall : a.allRemnants = false := Bool.eq_false_iff.mpr fun h =>
      Bool.eq_false_iff.mp hnot ((allRemnants_iff c lead).mp h t ht)
    rw [hvoid, retentionState_partly hfull ((empty_eq_false_iff c lead).mpr hcov) hnotall]

end Sys2Proof.Retention
end

section
/-! SUPPORT. The Permit Outputs block: when the outputs follow their conditions, that every command and every ref count
keeps them so, and the end of the reset, of the self-test and an edge of HOLD_IN. -/

namespace Sys2Proof.Permits

open Sys2Proof.Machine Sys2Proof.Safety Sys2Proof.AxisPosition

/-- SPARK_OK's condition reads the phase alone of the run record (R144). -/
theorem sparkCond_eq (s : State) : s.sparkCond =
    (s.device == .ready && s.plate.state == .active && (s.run.map (·.phase)).any Phase.sparks &&
      !s.holdIn && !s.gap.violation && !s.resetLow) := by
  unfold State.sparkCond
  cases s.run <;> rfl

/-! ### Conditions that hold a permit low (R143 to R145) -/

section

variable {s : State} (spark : Bool)

theorem sparkCond_of_not_ready (h : s.device ≠ .ready) : s.sparkCond = false := by simp [State.sparkCond, h]

theorem threadCond_of_not_ready (h : s.device ≠ .ready) : s.threadCond spark = false := by simp [State.threadCond, h]

theorem sparkCond_of_reset (h : s.resetLow = true) : s.sparkCond = false := by simp [State.sparkCond, h]

theorem threadCond_of_reset (h : s.resetLow = true) : s.threadCond spark = false := by simp [State.threadCond, h]

theorem sparkCond_of_hold (h : s.holdIn = true) : s.sparkCond = false := by simp [State.sparkCond, h]

theorem threadCond_of_hold (h : s.holdIn = true) : s.threadCond spark = false := by simp [State.threadCond, h]

end

/-! ### What makes the outputs follow (R144, R145, R154) -/

/-- Driving writes no condition, so each output stands at the level that its conditions give. -/
theorem driven_drive (s : State) : Driven (drive s) := ⟨rfl, rfl, fun l => by rw [drive_link]; rfl⟩

/-- Where the permits follow, driving the attention lines is enough. -/
theorem driven_driveAttn {s : State} (hspark : s.sparkOk = s.sparkCond)
    (hthread : s.threadOk = s.threadCond s.sparkCond) : Driven (driveAttn s) :=
  ⟨hspark, hthread, fun l => by rw [driveAttn_link]; rfl⟩

/-- An event that a guard may leave without effect. -/
theorem driven_guarded {c : Prop} [Decidable c] {t u : State} (ht : Driven t) (hu : Driven u) :
    Driven (if c then t else u) := by
  split
  · exact ht
  · exact hu

/-! ### What leaves them following: writes to no output and to no condition

`Driven` reads the same in two states that differ in other fields alone (the queue, the trace, the axes, the lines), so
there the hypothesis itself is the proof. -/

/-- A link's attention line and what it is driven from stay. -/
def AttnKept (k m : LinkState) : Prop := m.raw = k.raw ∧ m.mask = k.mask ∧ m.attn = k.attn

theorem attnLevel_of_attnKept {k m : LinkState} (h : AttnKept k m) : m.attnLevel = k.attnLevel := by
  obtain ⟨hraw, hmask, -⟩ := h
  simp only [LinkState.attnLevel, LinkState.masked, hraw, hmask]

@[simp] theorem sparkCond_setLink (s : State) (l : Link) (k : LinkState) : (s.setLink l k).sparkCond = s.sparkCond := by
  cases l <;> rfl

@[simp] theorem threadCond_setLink (s : State) (l : Link) (k : LinkState) (spark : Bool) :
    (s.setLink l k).threadCond spark = s.threadCond spark := by
  cases l <;> rfl

section

variable {s : State} (h : Driven s)
include h

/-- Writing a link that keeps its attention line, its pending events and its mask. -/
theorem driven_setLink {l : Link} {k : LinkState} (hk : AttnKept (s.link l) k) : Driven (s.setLink l k) := by
  obtain ⟨hspark, hthread, hattn⟩ := h
  refine ⟨by simpa using hspark, by simpa using hthread, fun m => ?_⟩
  by_cases hm : m = l
  · subst hm
    have ⟨_, _, hline⟩ := hk
    rw [link_setLink, attnLevel_of_attnKept hk, hline, hattn]
  · rw [link_setLink_other _ _ _ _ hm]
    exact hattn m

theorem driven_modLink {l : Link} {f : LinkState → LinkState} (hf : AttnKept (s.link l) (f (s.link l))) :
    Driven (s.modLink l f) := driven_setLink h hf

theorem driven_setAxis (a : Axis) (c : Channel) : Driven (s.setAxis a c) := by
  cases a <;> exact h

/-- A write to no output and to no link follows the conditions if it moves none. -/
theorem driven_of_conds {t : State} (hspark : t.sparkCond = s.sparkCond)
    (hthread : ∀ spark, t.threadCond spark = s.threadCond spark) (hsparkOk : t.sparkOk = s.sparkOk)
    (hthreadOk : t.threadOk = s.threadOk) (hlink : ∀ l, t.link l = s.link l) : Driven t := by
  obtain ⟨hs, ht, hattn⟩ := h
  refine ⟨?_, ?_, fun l => ?_⟩
  · rw [hsparkOk, hspark, hs]
  · rw [hthreadOk, hspark, hthread, ht]
  · rw [hlink, hattn]

/-- The violation latch is the Gap Monitor's one condition of a permit. -/
theorem driven_gap {g : Gap} (hg : g.violation = s.gap.violation) : Driven { s with gap := g } :=
  driven_of_conds h (by simp only [State.sparkCond, hg]) (fun _ => rfl) rfl rfl fun _ => rfl

theorem driven_modGap {f : Gap → Gap} (hf : (f s.gap).violation = s.gap.violation) : Driven (s.modGap f) :=
  driven_gap h hf

/-- The plate state is the Plate Map's one condition. -/
theorem driven_plate {p : Plate} (hp : p.state = s.plate.state) : Driven { s with plate := p } :=
  driven_of_conds h (by simp only [State.sparkCond, hp]) (fun _ => rfl) rfl rfl fun _ => rfl

/-- The phase is the run record's one condition. -/
theorem driven_run {r : Option Run} (hr : r.map (·.phase) = s.run.map (·.phase)) : Driven { s with run := r } :=
  driven_of_conds h (by simp only [sparkCond_eq, hr]) (fun _ => rfl) rfl rfl fun _ => rfl

/-- Whether a target is posted is the Rethread Planner's one condition. -/
theorem driven_planner {p : Planner} (hp : p.target.isSome = s.planner.target.isSome) :
    Driven { s with planner := p } :=
  driven_of_conds h rfl (fun _ => by simp only [State.threadCond, hp]) rfl rfl fun _ => rfl

theorem driven_enqueue? (c : Option Instr) : Driven (enqueue? c s) := by
  cases c <;> exact h

/-! ### Frames, replies and error records -/

theorem driven_answerWith (l : Link) (r k tag : Byte) (body : List Byte) : Driven (answerWith l r k tag body s) :=
  driven_modLink h ⟨rfl, rfl, rfl⟩

theorem driven_holdReply (l : Link) (k tag : Byte) : Driven (holdReply l k tag s) := driven_modLink h ⟨rfl, rfl, rfl⟩

theorem driven_recordError (l : Link) (code : LinkErr) (kind tag : Option Byte) :
    Driven (recordError l code kind tag s) := driven_modLink h ⟨rfl, rfl, rfl⟩

theorem driven_discardFrame (l : Link) (code : LinkErr) (kind tag : Option Byte) :
    Driven (discardFrame l code kind tag s) :=
  driven_guarded (driven_modLink (driven_recordError h l code kind tag) ⟨rfl, rfl, rfl⟩) h

theorem driven_unknownKind (l : Link) (kind tag : Byte) : Driven (unknownKind l kind tag s) := by
  have hfree : Driven (unknownReplyKind kind s).2 := by
    unfold unknownReplyKind
    split <;> exact h
  exact driven_guarded h (driven_guarded (driven_recordError h ..) (driven_answerWith hfree ..))

end

theorem driven_finish (l : Link) (kind tag : Byte) {a : Answer} (h : Driven a.1) : Driven (finish l kind tag a) := by
  unfold finish
  split
  · exact driven_answerWith h ..
  · exact driven_holdReply h ..

/-! ### Requests -/

/-- A block's answer leaves the outputs following their conditions. -/
def KeepsDriven {β : Type} (act : β → State → Answer) : Prop := ∀ b s, Driven s → Driven (act b s).1

/-- Whatever the link makes of a frame, only the block's own answer can write an output or a condition (R150, R169). -/
theorem driven_serve {β : Type} {act : β → State → Answer} (hact : KeepsDriven act) {s : State} (h : Driven s)
    (l : Link) (k : Req) (tag : Byte) (body : List Byte) (parsed : Option β) :
    Driven (serve l k tag body parsed act s) := by
  have hanswer : Driven (answerOf l k body parsed act s).1 := by
    unfold answerOf
    split
    · exact h
    · split
      · exact h
      · split
        · exact h
        · exact hact _ _ h
  exact driven_guarded h (driven_guarded (driven_recordError h ..) (driven_finish _ _ _ hanswer))

/-- An answer that stands behind a check (a refusal is an answer that keeps the state). -/
theorem driven_ite {c : Prop} [Decidable c] {a b : Answer} (ha : Driven a.1) (hb : Driven b.1) :
    Driven (if c then a else b).1 := by
  split
  · exact ha
  · exact hb

/-! #### Served on all three links -/

theorem keepsDriven_attentionRead (l : Link) : KeepsDriven (attentionRead l) := fun _ _ _ => driven_drive _

theorem keepsDriven_eventMask (l : Link) : KeepsDriven (eventMask l) := fun _ _ _ => driven_drive _

theorem keepsDriven_eventClear (l : Link) : KeepsDriven (eventClear l) := fun _ _ _ => driven_drive _

theorem keepsDriven_linkErrors (l : Link) : KeepsDriven (linkErrors l) := fun _ _ h => driven_modLink h ⟨rfl, rfl, rfl⟩

theorem keepsDriven_deviceStatus : KeepsDriven deviceStatus := fun _ _ h => h

/-! #### Motion Link -/

theorem keepsDriven_runOpen : KeepsDriven runOpen := fun q s h => by
  unfold runOpen
  split
  · exact h
  · exact driven_drive _

theorem keepsDriven_runContinue : KeepsDriven runContinue := fun _ s h => by
  unfold runContinue
  split
  · exact h
  · split
    · exact driven_ite h (driven_drive _)
    · exact h

theorem keepsDriven_runClose : KeepsDriven runClose := fun _ s h => by
  unfold runClose
  split
  · exact h
  · exact driven_drive _

theorem keepsDriven_settingChange : KeepsDriven settingChange := fun n s h => by
  unfold settingChange
  split
  · exact h
  · exact driven_ite h (driven_drive _)

theorem keepsDriven_warnClear : KeepsDriven warnClear := fun _ s h => by
  unfold warnClear
  split
  · exact h
  next run hrun => exact driven_run h (by rw [hrun]; rfl)

theorem keepsDriven_runRead : KeepsDriven runRead := fun selector s h => by
  unfold runRead
  split
  · split <;> exact h
  · split <;> exact h
  · exact h

theorem keepsDriven_planRead : KeepsDriven planRead := fun _ s h => by
  unfold planRead
  split <;> exact h

theorem keepsDriven_positionRead : KeepsDriven positionRead := fun _ _ h => h

theorem keepsDriven_zeroSet : KeepsDriven zeroSet := fun _ _ h => driven_ite h (driven_ite h (driven_drive _))

theorem keepsDriven_gapRead : KeepsDriven gapRead := fun _ _ h => h

/-! #### Thread Link -/

/-- THREAD_BEGIN is taken for a posted target alone (R124, check 1). -/
theorem target_isSome_of_checkThreadBegin {n : Nat} {s : State} {t : Target} (h : checkThreadBegin n s = .ok t) :
    s.planner.target.isSome = true := by
  cases ht : s.planner.target with
  | none => simp [Threading.checkThreadBegin_of_none n ht] at h
  | some _ => rfl

/-- THREAD_BEGIN marks the posted target, which stays posted (R124). -/
theorem keepsDriven_threadBegin : KeepsDriven threadBegin := fun n s h => by
  unfold threadBegin
  split
  · exact h
  next t ht => exact driven_planner h (by simp [target_isSome_of_checkThreadBegin ht])

theorem keepsDriven_donePosted : KeepsDriven donePosted := fun q s h => by
  unfold donePosted
  split
  · exact h
  · exact driven_ite h (driven_ite h (driven_ite (driven_drive _) (driven_drive _)))

/-- A withdrawn target is posted no longer, so its result is no condition (R125, case 2). -/
theorem keepsDriven_threadDone : KeepsDriven threadDone := fun q s h => by
  unfold threadDone
  refine driven_ite h ?_
  split
  · exact driven_planner h rfl
  · exact keepsDriven_donePosted q s h

theorem keepsDriven_targetRead : KeepsDriven targetRead := fun _ _ h => h

theorem keepsDriven_wireCut : KeepsDriven wireCut := fun _ _ h => driven_ite (driven_planner h rfl) h

/-! #### Cell Link -/

theorem keepsDriven_plateBegin : KeepsDriven plateBegin := fun _ _ h => driven_ite (driven_drive _) h

theorem keepsDriven_contourLoad : KeepsDriven contourLoad := fun q s h => by
  unfold contourLoad
  refine driven_ite h ?_
  split
  · exact h
  · exact driven_ite h (driven_plate h rfl)

theorem keepsDriven_vertexAppend : KeepsDriven vertexAppend := fun q s h => by
  unfold vertexAppend
  split
  · exact h
  · exact driven_plate h rfl

theorem keepsDriven_holeLoad : KeepsDriven holeLoad := fun q s h => by
  unfold holeLoad
  split
  · exact h
  · exact driven_plate h rfl

theorem keepsDriven_plateArm : KeepsDriven plateArm := fun _ _ h => driven_ite (driven_drive _) h

theorem keepsDriven_plateDisarm : KeepsDriven plateDisarm := fun _ _ h => driven_ite (driven_drive _) h

theorem keepsDriven_plateClose : KeepsDriven plateClose := fun _ _ h => driven_ite h (driven_ite h (driven_drive _))

theorem keepsDriven_plateStatus : KeepsDriven plateStatus := fun _ _ h => h

theorem keepsDriven_vertexRead : KeepsDriven vertexRead := fun q s h => by
  unfold vertexRead
  refine driven_ite h (driven_ite h ?_)
  split
  · exact h
  · exact driven_ite h h

theorem keepsDriven_contourRead : KeepsDriven contourRead := fun i s h => by
  unfold contourRead
  refine driven_ite h (driven_ite h ?_)
  split <;> exact h

theorem keepsDriven_holeRead : KeepsDriven holeRead := fun i s h => by
  unfold holeRead
  refine driven_ite h (driven_ite h ?_)
  split <;> exact h

theorem keepsDriven_catchArm : KeepsDriven catchArm := fun i s h => by
  unfold catchArm
  split
  · exact h
  · exact driven_ite h (driven_ite h (driven_ite h (driven_drive _)))

theorem keepsDriven_catchDisarm : KeepsDriven catchDisarm := fun i s h => by
  unfold catchDisarm
  split
  · exact h
  · exact driven_ite h (driven_ite h (driven_ite h (driven_drive _)))

theorem keepsDriven_slugRemoved : KeepsDriven slugRemoved := fun i s h => by
  unfold slugRemoved
  split
  · exact h
  · exact driven_ite h (driven_ite h (driven_drive _))

theorem keepsDriven_contourVoid : KeepsDriven contourVoid := fun i s h => by
  unfold contourVoid
  split
  · exact h
  · exact driven_ite h (driven_ite h (driven_drive _))

theorem keepsDriven_holeReset : KeepsDriven holeReset := fun i s h => by
  unfold holeReset
  refine driven_ite h (driven_ite h ?_)
  split
  · exact h
  · exact driven_plate h rfl

theorem keepsDriven_faultClear : KeepsDriven faultClear := fun _ _ _ => driven_drive _

theorem keepsDriven_configWrite : KeepsDriven configWrite := fun _ _ h => driven_ite h (driven_drive _)

theorem keepsDriven_configRead : KeepsDriven configRead := fun _ _ h => h

theorem keepsDriven_traceRead : KeepsDriven traceRead := fun _ _ h => h

/-! ### Events of the links -/

section

variable {s : State} (h : Driven s)
include h

theorem driven_execFrameOverrun (l : Link) (kind tag : Byte) :
    ∃ t, execFrameOverrun l kind tag s = .next t ∧ Driven t :=
  ⟨_, rfl, driven_guarded (driven_discardFrame h ..) h⟩

theorem driven_execReplySent (l : Link) : ∃ t, execReplySent l s = .next t ∧ Driven t :=
  ⟨_, rfl, driven_guarded (driven_modLink h ⟨rfl, rfl, rfl⟩) h⟩

/-- A link reset gives a new mask, so its attention line is driven; no permit reads a link (R143, R158). -/
theorem driven_execLinkReset (l : Link) : ∃ t, execLinkReset l s = .next t ∧ Driven t := by
  refine ⟨_, rfl, driven_guarded h ?_⟩
  obtain ⟨hspark, hthread, -⟩ := h
  exact driven_driveAttn (by simpa [State.modLink] using hspark) (by simpa [State.modLink] using hthread)

theorem driven_execLinkBreakEnd (l : Link) : ∃ t, execLinkBreakEnd l s = .next t ∧ Driven t :=
  ⟨_, rfl, driven_guarded (driven_modLink h ⟨rfl, rfl, rfl⟩) h⟩

/-! ### Events of the blocks -/

theorem driven_answerArm (body : List Byte) : Driven (answerArm body s) := by
  unfold answerArm
  split
  · exact driven_answerWith h ..
  · exact h

theorem driven_validationComplete : Driven (validationComplete s) := by
  unfold validationComplete
  split
  · split
    · exact driven_answerArm (driven_drive _) _
    · exact driven_answerArm (driven_drive _) _
  · exact h

/-- Which free values the levels of the pairs take is no condition (R27, log 8). -/
theorem driven_pairLevel (received last : Option Bool) : Driven (pairLevel received last s).2 := by
  unfold pairLevel
  split <;> exact h

/-- An observation writes a channel; an illegal one ends in an ENCODER event, which drives the outputs (R25, R33). -/
theorem driven_quadratureStep (axis : Axis) (a b : Option Bool) : Driven (quadratureStep axis a b s) := by
  unfold quadratureStep
  dsimp only
  split
  · exact h
  · split
    · exact driven_setAxis h ..
    · split
      · exact driven_drive _
      · exact driven_setAxis (driven_pairLevel (driven_pairLevel h ..) ..) ..

theorem driven_lineFaultBegin (axis : Axis) : Driven (lineFaultBegin axis s) := driven_guarded h (driven_drive _)

theorem driven_lineFaultEnd (axis : Axis) : Driven (lineFaultEnd axis s) := driven_guarded h (driven_drive _)

theorem driven_indexPulse (axis : Axis) : Driven (indexPulse axis s) := by
  unfold indexPulse
  dsimp only
  split
  · exact h
  · split
    · exact driven_setAxis h ..
    · split
      · exact driven_setAxis h ..
      · exact driven_drive _

theorem driven_sparkInPulse : Driven (sparkInPulse s) := driven_guarded h (driven_drive _)

theorem driven_shortInRise : Driven (shortInRise s) := by
  refine driven_guarded h (driven_gap (s := { s with shortIn := true }) h ?_)
  split <;> rfl

theorem driven_shortInFall : Driven (shortInFall s) := h

theorem driven_countShort : Driven (countShort s) := driven_guarded (driven_run h (by simp [Function.comp_def])) h

theorem driven_shortQualify : Driven (shortQualify s) := by
  unfold shortQualify
  split
  · split
    · exact h
    · exact driven_countShort (driven_modGap h rfl)
  · exact h

theorem driven_pinch : Driven (pinch s) := by
  unfold pinch
  split
  · split
    · exact h
    · exact driven_drive _
  · exact h

theorem driven_windowEnd : Driven (windowEnd s) := driven_guarded h (driven_drive _)

theorem driven_settleEnd : Driven (settleEnd s) := driven_modGap h rfl

/-- An abandoned sample clears its mark alone; a completed one drives the outputs (R40). -/
theorem driven_progressSample : Driven (progressSample s) := by
  unfold progressSample
  split
  · exact h
  · split
    · exact driven_drive _
    · exact h
    · split
      · exact h
      · exact driven_drive _

theorem driven_breakIn : Driven (breakIn s) := driven_guarded h (driven_drive _)

/-- The permits follow the edge before INHIBIT is posted, and no permit reads what is pending (R146). -/
theorem driven_holdInChange (level : Bool) : Driven (holdInChange level s) :=
  driven_guarded h (driven_driveAttn rfl rfl)

theorem driven_selfTestEnd (readsBack : Bool) : Driven (selfTestEnd readsBack s) := driven_guarded h (driven_drive _)

/-- Under reset and in STARTING both permits are low, so the end of the reset moves none (R143, R168). -/
theorem driven_resetEnd : Driven (resetEnd s) := by
  unfold resetEnd
  split
  next hlow =>
    obtain ⟨hspark, hthread, hattn⟩ := h
    rw [sparkCond_of_reset hlow] at hspark
    rw [threadCond_of_reset _ hlow] at hthread
    exact ⟨hspark.trans (sparkCond_of_not_ready (by simp)).symm,
      hthread.trans (threadCond_of_not_ready _ (by simp)).symm, hattn⟩
  · exact h

end

/-- After a device reset nothing is pending on a link. -/
theorem attnLevel_reset (mask : EventSet) : (LinkState.reset mask).attnLevel = false := by
  simp [LinkState.attnLevel, LinkState.masked, LinkState.reset, rawBits]

/-- Under reset nothing is pending and both permits are low (R143, R168). -/
theorem driven_deviceReset (s : State) : Driven (deviceReset s) := by
  refine ⟨(sparkCond_of_reset rfl).symm, (threadCond_of_reset _ rfl).symm, fun l => ?_⟩
  cases l <;> exact (attnLevel_reset _).symm

/-! ### One ref count -/

theorem attnKept_take (k : LinkState) (l : Link) (part : List Byte) : AttnKept k (k.take l part).1 := by
  unfold LinkState.take
  split <;> exact ⟨rfl, rfl, rfl⟩

theorem attnKept_byte (k : LinkState) (l : Link) (b : Byte) : AttnKept k (k.byte l b).1 := by
  unfold LinkState.byte
  split
  · exact ⟨rfl, rfl, rfl⟩
  · split
    · exact attnKept_take ..
    · exact ⟨rfl, rfl, rfl⟩
  · exact attnKept_take ..

/-- What arrives on a receive line becomes a command, and nothing is pending before that command runs (log 1). -/
theorem attnKept_line1 (k : LinkState) (l : Link) : AttnKept k (k.line1 l).1 := by
  unfold LinkState.line1
  split
  · exact ⟨rfl, rfl, rfl⟩
  next item rest _ =>
    split
    · cases item with
      | byte _ b => exact attnKept_byte { k with line := rest } l b
      | spacing _ => exact ⟨rfl, rfl, rfl⟩
      | marking _ => exact ⟨rfl, rfl, rfl⟩
    · exact ⟨rfl, rfl, rfl⟩

theorem attnKept_gap1 (k : LinkState) (l : Link) : AttnKept k (k.gap1 l).1 := by
  unfold LinkState.gap1
  split
  · split <;> exact ⟨rfl, rfl, rfl⟩
  · exact ⟨rfl, rfl, rfl⟩

theorem attnKept_reply1 (k : LinkState) (l : Link) : AttnKept k (k.reply1 l).1 := by
  unfold LinkState.reply1
  split <;> exact ⟨rfl, rfl, rfl⟩

section

variable {s : State} (h : Driven s)
include h

theorem driven_linkPart {f : LinkState → Link → LinkState × Option Instr} (hf : ∀ k l, AttnKept k (f k l).1)
    (l : Link) : Driven (linkPart f l s) := driven_enqueue? (driven_setLink h (hf _ l)) _

theorem driven_tickLink (l : Link) : Driven (tickLink l s) :=
  driven_linkPart (driven_linkPart (driven_linkPart h attnKept_reply1 l) attnKept_gap1 l) attnKept_line1 l

theorem driven_tickInterval : Driven (tickInterval s) := driven_modGap h rfl

theorem driven_tickWindow : Driven (tickWindow s) := driven_enqueue? (driven_modGap h (by rfl)) _

theorem driven_tickSettle : Driven (tickSettle s) := by
  unfold tickSettle
  split
  · exact h
  · exact driven_enqueue? (driven_modGap h (by rfl)) _

theorem driven_tickEpisode : Driven (tickEpisode s) := by
  unfold tickEpisode
  split
  · exact h
  · exact driven_enqueue? (driven_enqueue? (driven_modGap h (by rfl)) _) _

theorem driven_tickSample : Driven (tickSample s) := by
  unfold tickSample
  split
  · exact h
  · split
    · exact h
    · dsimp only
      split <;> exact h

theorem driven_tickValidation : Driven (tickValidation s) := by
  unfold tickValidation
  split
  · exact h
  · exact driven_enqueue? (driven_plate h (by rfl)) _

theorem driven_tickSelfTest : Driven (tickSelfTest s) := by
  unfold tickSelfTest
  split
  · exact h
  · split <;> exact h

/-- A timer writes its own count and the queue; its event does the rest (log 2). -/
theorem driven_tick : Driven (tick s) := by
  unfold tick
  split
  · exact h
  · have hgap := driven_tickEpisode (driven_tickSettle (driven_tickWindow (driven_tickInterval h)))
    have hblocks := driven_tickSelfTest (driven_tickValidation (driven_tickSample hgap))
    exact driven_tickLink (driven_tickLink (driven_tickLink hblocks _) _) _

/-! ### Every command -/

/-- Every command answers a state whose outputs follow: it keeps outputs and conditions, or it drives what it moves. -/
theorem driven_exec (i : Instr) : ∃ t, exec i s = .next t ∧ Driven t := by
  cases i with
  | attentionRead l => exact ⟨_, rfl, driven_serve (keepsDriven_attentionRead l) h ..⟩
  | eventMask l => exact ⟨_, rfl, driven_serve (keepsDriven_eventMask l) h ..⟩
  | eventClear l => exact ⟨_, rfl, driven_serve (keepsDriven_eventClear l) h ..⟩
  | linkErrors l => exact ⟨_, rfl, driven_serve (keepsDriven_linkErrors l) h ..⟩
  | deviceStatus => exact ⟨_, rfl, driven_serve keepsDriven_deviceStatus h ..⟩
  | runOpen => exact ⟨_, rfl, driven_serve keepsDriven_runOpen h ..⟩
  | runContinue => exact ⟨_, rfl, driven_serve keepsDriven_runContinue h ..⟩
  | runClose => exact ⟨_, rfl, driven_serve keepsDriven_runClose h ..⟩
  | settingChange => exact ⟨_, rfl, driven_serve keepsDriven_settingChange h ..⟩
  | warnClear => exact ⟨_, rfl, driven_serve keepsDriven_warnClear h ..⟩
  | runRead => exact ⟨_, rfl, driven_serve keepsDriven_runRead h ..⟩
  | planRead => exact ⟨_, rfl, driven_serve keepsDriven_planRead h ..⟩
  | positionRead => exact ⟨_, rfl, driven_serve keepsDriven_positionRead h ..⟩
  | zeroSet => exact ⟨_, rfl, driven_serve keepsDriven_zeroSet h ..⟩
  | gapRead => exact ⟨_, rfl, driven_serve keepsDriven_gapRead h ..⟩
  | threadBegin => exact ⟨_, rfl, driven_serve keepsDriven_threadBegin h ..⟩
  | threadDone => exact ⟨_, rfl, driven_serve keepsDriven_threadDone h ..⟩
  | targetRead => exact ⟨_, rfl, driven_serve keepsDriven_targetRead h ..⟩
  | wireCut => exact ⟨_, rfl, driven_serve keepsDriven_wireCut h ..⟩
  | plateBegin => exact ⟨_, rfl, driven_serve keepsDriven_plateBegin h ..⟩
  | contourLoad => exact ⟨_, rfl, driven_serve keepsDriven_contourLoad h ..⟩
  | vertexAppend => exact ⟨_, rfl, driven_serve keepsDriven_vertexAppend h ..⟩
  | holeLoad => exact ⟨_, rfl, driven_serve keepsDriven_holeLoad h ..⟩
  | plateArm => exact ⟨_, rfl, driven_serve keepsDriven_plateArm h ..⟩
  | plateDisarm => exact ⟨_, rfl, driven_serve keepsDriven_plateDisarm h ..⟩
  | plateClose => exact ⟨_, rfl, driven_serve keepsDriven_plateClose h ..⟩
  | plateStatus => exact ⟨_, rfl, driven_serve keepsDriven_plateStatus h ..⟩
  | vertexRead => exact ⟨_, rfl, driven_serve keepsDriven_vertexRead h ..⟩
  | contourRead => exact ⟨_, rfl, driven_serve keepsDriven_contourRead h ..⟩
  | holeRead => exact ⟨_, rfl, driven_serve keepsDriven_holeRead h ..⟩
  | catchArm => exact ⟨_, rfl, driven_serve keepsDriven_catchArm h ..⟩
  | catchDisarm => exact ⟨_, rfl, driven_serve keepsDriven_catchDisarm h ..⟩
  | slugRemoved => exact ⟨_, rfl, driven_serve keepsDriven_slugRemoved h ..⟩
  | contourVoid => exact ⟨_, rfl, driven_serve keepsDriven_contourVoid h ..⟩
  | holeReset => exact ⟨_, rfl, driven_serve keepsDriven_holeReset h ..⟩
  | faultClear => exact ⟨_, rfl, driven_serve keepsDriven_faultClear h ..⟩
  | configWrite => exact ⟨_, rfl, driven_serve keepsDriven_configWrite h ..⟩
  | configRead => exact ⟨_, rfl, driven_serve keepsDriven_configRead h ..⟩
  | traceRead => exact ⟨_, rfl, driven_serve keepsDriven_traceRead h ..⟩
  | unknownKind => exact ⟨_, rfl, driven_unknownKind h ..⟩
  | frameCheckError => exact ⟨_, rfl, driven_discardFrame h ..⟩
  | frameLengthError => exact ⟨_, rfl, driven_discardFrame h ..⟩
  | frameGapTimeout => exact ⟨_, rfl, driven_discardFrame h ..⟩
  | frameOverrun => exact driven_execFrameOverrun h ..
  | replySent => exact driven_execReplySent h ..
  | linkReset => exact driven_execLinkReset h ..
  | linkBreakEnd => exact driven_execLinkBreakEnd h ..
  | validationComplete => exact ⟨_, rfl, driven_validationComplete h⟩
  | quadratureStep => exact ⟨_, rfl, driven_quadratureStep h ..⟩
  | lineFaultBegin => exact ⟨_, rfl, driven_lineFaultBegin h ..⟩
  | lineFaultEnd => exact ⟨_, rfl, driven_lineFaultEnd h ..⟩
  | indexPulse => exact ⟨_, rfl, driven_indexPulse h ..⟩
  | sparkInPulse => exact ⟨_, rfl, driven_sparkInPulse h⟩
  | shortInRise => exact ⟨_, rfl, driven_shortInRise h⟩
  | shortInFall => exact ⟨_, rfl, driven_shortInFall h⟩
  | shortQualify => exact ⟨_, rfl, driven_shortQualify h⟩
  | pinch => exact ⟨_, rfl, driven_pinch h⟩
  | windowEnd => exact ⟨_, rfl, driven_windowEnd h⟩
  | settleEnd => exact ⟨_, rfl, driven_settleEnd h⟩
  | progressSample => exact ⟨_, rfl, driven_progressSample h⟩
  | breakIn => exact ⟨_, rfl, driven_breakIn h⟩
  | holdInChange => exact ⟨_, rfl, driven_holdInChange h ..⟩
  | deviceReset => exact ⟨_, rfl, driven_deviceReset s⟩
  | resetEnd => exact ⟨_, rfl, driven_resetEnd h⟩
  | selfTestEnd => exact ⟨_, rfl, driven_selfTestEnd h ..⟩

end

/-- Settles O6: a step is a command on the queue's rest, which is no condition, or one ref count. -/
theorem everyStepDrivesOutputs : Obligations.EveryStepDrivesOutputs := by
  unfold Obligations.EveryStepDrivesOutputs
  intro s t h hstep
  cases hp : s.pending with
  | nil =>
    simp only [step, hp, Host.Outcome.next.injEq] at hstep
    exact hstep ▸ driven_tick h
  | cons i rest =>
    have hrest : Driven { s with pending := rest } := h
    obtain ⟨u, hexec, hu⟩ := driven_exec hrest i
    simp only [step, hp, hexec, Host.Outcome.next.injEq] at hstep
    exact hstep ▸ hu

/-! ### Ends of the reset and of the self-test (R168) -/

theorem exec_resetEnd {s : State} (h : s.resetLow = true) : exec .resetEnd s =
    .next { s with resetLow := false, device := .starting, selfTest := .running, selfTestLeft := 400000 } := by
  simp [exec, execResetEnd, resetEnd, h, Config.selfTestTime]

theorem exec_selfTestEnd (readsBack : Bool) {s : State} (hr : s.resetLow = false) (hd : s.device = .starting) :
    exec (.selfTestEnd readsBack) s = .next (drive (tested readsBack s)) := by
  simp [exec, execSelfTestEnd, selfTestEnd, hr, hd]

/-! ### An edge of HOLD_IN (R146) -/

/-- The state after the taken level has changed and the permits have followed it. -/
def heldAt (level : Bool) (s : State) : State := drivePermits { s with holdIn := level }

/-- INHIBIT with the levels that a state shows. -/
def inhibitOf (s : State) : Event := .inhibit s.holdIn s.sparkOk s.threadOk

theorem exec_holdInChange {level : Bool} {s : State} (hr : s.resetLow = false) (hs : s.holdIn = !level) :
    exec (.holdInChange level) s = .next (driveAttn (post (inhibitOf (heldAt level s)) (heldAt level s))) := by
  simp [exec, execHoldInChange, holdInChange, hr, hs, inhibitOf, heldAt]

/-- INHIBIT is routed to every link (Table 10-2). -/
theorem inhibit_routed (l : Link) : (routed l).getLsbD 11 = true := by cases l <;> decide

/-- On every link INHIBIT stands with the levels of the state that posted it, and the other kinds stay (R146). -/
theorem get?_raw_inhibit (s u : State) (l : Link) :
    Table.get? ((driveAttn (post (inhibitOf u) s)).link l).raw 11 = some (inhibitOf u) ∧
      ∀ b, b ≠ 11 → Table.get? ((driveAttn (post (inhibitOf u) s)).link l).raw b = Table.get? (s.link l).raw b := by
  rw [driveAttn_link, post_link]
  exact ⟨get?_posted_same _ l (inhibitOf u) (inhibit_routed l) (by simp [inhibitOf, Event.bit]),
    fun b hb => get?_posted_other _ l (inhibitOf u) b hb⟩

theorem kept_drivePermits (s : State) : Kept s (drivePermits s) :=
  ⟨rfl, rfl, rfl, rfl, rfl, rfl, rfl, fun _ => rfl⟩

theorem kept_driveAttn (s : State) : Kept s (driveAttn s) :=
  ⟨rfl, rfl, rfl, rfl, rfl, rfl, rfl, fun l => by rw [driveAttn_link]⟩

theorem link_heldAt (level : Bool) (s : State) (l : Link) : (heldAt level s).link l = s.link l := by cases l <;> rfl

/-- Settles O4: each event's equation, and for HOLD_IN what the posting of INHIBIT adds to the driven permits. -/
theorem resetEndSelfTestAndHoldComplete : Obligations.ResetEndSelfTestAndHoldComplete := by
  unfold Obligations.ResetEndSelfTestAndHoldComplete
  refine ⟨fun s h => exec_resetEnd h, fun s hr hd => ⟨exec_selfTestEnd true hr hd, exec_selfTestEnd false hr hd⟩,
    fun level s hr hs => ⟨_, exec_holdInChange hr hs, rfl, rfl, rfl, fun hlevel => ?low, fun l => ?inhibit,
      rfl, rfl, rfl, rfl, rfl, rfl, rfl, ⟨rfl, rfl, rfl⟩, ⟨rfl, rfl⟩, ?kept⟩⟩
  case low => exact ⟨sparkCond_of_hold hlevel, threadCond_of_hold _ hlevel⟩
  case inhibit =>
    rw [← link_heldAt level s l]
    exact get?_raw_inhibit _ _ l
  case kept => exact kept_trans (kept_trans (kept_drivePermits _) (kept_post _ _)) (kept_driveAttn _)

end Sys2Proof.Permits
end

section
/-! SUPPORT. Links and attention (chapter 10): the receiver on the bytes of a frame, KIND codes and detail sizes, what
answers a request before its block, and what the requests and events of the link interfaces do. -/

namespace Sys2Proof.LinkInterfaces

open Sys2Proof.Machine Sys2Proof.Safety

/-! ### Judging a frame (R149) -/

/-- SYNC with a LEN above 240 is judged at once. -/
theorem judge_tooLong {len : Byte} (h : 240 < len.toNat) : judge [0xC3, len] = .tooLong := by
  simp [judge, Config.maxBody, h]

/-- A frame is complete at LEN + 6 bytes, and not before. -/
theorem judge_take_going (sync : Byte) {len : Byte} (rest : List Byte) (hlen : len.toNat ≤ 240) {n : Nat}
    (hn : n < len.toNat + 6) : judge ((sync :: len :: rest).take n) = .going := by
  have hfits : ¬ Config.maxBody < len.toNat := Nat.not_lt.mpr hlen
  match n, rest with
  | 0, _ | 1, _ => rfl
  | 2, _ | _ + 3, [] | 3, _ :: _ | _ + 4, [_] => simp [judge, hfits]
  | m + 4, kind :: tag :: more =>
    have hshort : (more.take m).length < len.toNat + 2 := (List.length_take_le m more).trans_lt (by omega)
    simp only [List.take_succ_cons, judge, if_neg hfits, if_pos hshort]

/-- The complete frame is judged by its CHECK alone. -/
theorem judge_complete (sync : Byte) {len : Byte} (kind tag x y : Byte) {body : List Byte} (hlen : len.toNat ≤ 240)
    (hbody : body.length = len.toNat) : judge (sync :: len :: kind :: tag :: (body ++ [x, y])) =
      if checkBytes (len :: kind :: tag :: body) = [x, y] then .good kind tag body else .checkError kind tag := by
  have hfits : ¬ Config.maxBody < len.toNat := Nat.not_lt.mpr hlen
  have hlong : ¬ (body ++ [x, y]).length < len.toNat + 2 := by simp [hbody]
  simp only [judge, if_neg hfits, if_neg hlong, List.take_left' hbody, List.drop_left' hbody]
  rfl

/-! ### Feeding a receiver (R148) -/

/-- The receiver in FRAME with a partial frame, no silence since its last byte. -/
def holding (k : LinkState) (part : List Byte) : LinkState := { k with rx := .frame, part := part, gapTime := 0 }

/-- The receiver in HUNT with no partial frame. -/
def hunting (k : LinkState) : LinkState := { k with rx := .hunt, part := [], gapTime := 0 }

theorem take_of_going {k : LinkState} {l : Link} {part : List Byte} (h : judge part = .going) :
    k.take l part = (holding k part, none) := by
  simp [LinkState.take, h, Judged.command, holding]

theorem take_of_ended {k : LinkState} {l : Link} {part : List Byte} {c : Instr}
    (h : (judge part).command l = some c) : k.take l part = (hunting k, some c) := by
  simp [LinkState.take, h, hunting]

theorem feed_append (l : Link) (k : LinkState) (xs ys : List Byte) : feed l k (xs ++ ys) =
    ((feed l (feed l k xs).1 ys).1, (feed l k xs).2 ++ (feed l (feed l k xs).1 ys).2) := by
  induction xs generalizing k with
  | nil => rfl
  | cons b rest ih => simp [feed, ih]

/-- SYNC begins a frame. -/
theorem feed_sync {l : Link} {k : LinkState} (h : k.rx = .hunt) (bytes : List Byte) :
    feed l k (0xC3 :: bytes) = feed l (holding k [0xC3]) bytes := by
  have hbyte : k.byte l 0xC3 = (holding k [0xC3], none) := by
    simp only [LinkState.byte, h, if_true]
    exact take_of_going rfl
  rw [feed, hbyte]
  rfl

/-- While the partial frame is incomplete its bytes are held. -/
theorem feed_holding {l : Link} {k : LinkState} {part bytes : List Byte}
    (h : ∀ n ≤ bytes.length, judge (part ++ bytes.take n) = .going) :
    feed l (holding k part) bytes = (holding k (part ++ bytes), []) := by
  induction bytes generalizing part with
  | nil => simp [feed]
  | cons b rest ih =>
    have hgoing : judge (part ++ [b]) = .going := by simpa using h 1 (by simp)
    have hfirst : (holding k part).byte l b = (holding k (part ++ [b]), none) := take_of_going hgoing
    have hrest : feed l (holding k (part ++ [b])) rest = (holding k (part ++ [b] ++ rest), []) :=
      ih fun n hn => by simpa using h (n + 1) (by simpa using hn)
    simp [feed, hfirst, hrest]

/-- The byte that ends a frame brings the command, and the receiver hunts. -/
theorem feed_last {l : Link} {k : LinkState} {part : List Byte} {b : Byte} {c : Instr}
    (h : (judge (part ++ [b])).command l = some c) : feed l (holding k part) [b] = (hunting k, [c]) := by
  have hbyte : (holding k part).byte l b = (hunting k, some c) := take_of_ended h
  simp [feed, hbyte]

section

variable {l : Link} {k : LinkState} {len : Byte} (hk : k.rx = .hunt) (hlen : len.toNat ≤ 240)
include hk hlen

/-- Fewer than LEN + 6 bytes of a frame are held. -/
theorem feed_part {bytes : List Byte} (hbytes : bytes.length < len.toNat + 5) {rest : List Byte}
    (hprefix : bytes <+: len :: rest) : feed l k (0xC3 :: bytes) = (holding k (0xC3 :: bytes), []) := by
  rw [feed_sync hk]
  refine feed_holding fun n hn => ?_
  have htake : [0xC3] ++ bytes.take n = (0xC3 :: len :: rest).take (n + 1) := by
    rw [List.prefix_iff_eq_take.mp hprefix, List.take_take, Nat.min_eq_left hn]
    rfl
  rw [htake]
  exact judge_take_going 0xC3 rest hlen (by omega)

/-- A complete frame brings one command at its last byte: its request, or FRAME_CHECK_ERROR. -/
theorem feed_frame (kind tag x y : Byte) {body : List Byte} (hbody : body.length = len.toNat) :
    feed l k (0xC3 :: len :: kind :: tag :: (body ++ [x, y])) = (hunting k,
      [if checkBytes (len :: kind :: tag :: body) = [x, y] then frameCommand l kind tag body
        else .frameCheckError l kind tag]) := by
  have hheld : feed l k (0xC3 :: len :: kind :: tag :: (body ++ [x])) =
      (holding k (0xC3 :: len :: kind :: tag :: (body ++ [x])), []) :=
    feed_part hk hlen (by simp [hbody]) (List.prefix_refl _)
  have hlast : (judge (0xC3 :: len :: kind :: tag :: (body ++ [x]) ++ [y])).command l =
      some (if checkBytes (len :: kind :: tag :: body) = [x, y] then frameCommand l kind tag body
        else .frameCheckError l kind tag) := by
    have hsplit : 0xC3 :: len :: kind :: tag :: (body ++ [x]) ++ [y] =
      0xC3 :: len :: kind :: tag :: (body ++ [x, y]) := by simp
    rw [hsplit, judge_complete 0xC3 kind tag x y hlen hbody]
    split <;> rfl
  calc feed l k (0xC3 :: len :: kind :: tag :: (body ++ [x, y]))
      = feed l k ((0xC3 :: len :: kind :: tag :: (body ++ [x])) ++ [y]) := by simp
    _ = _ := by rw [feed_append, hheld, feed_last hlast]; rfl

end

/-- A receiver in BREAK takes no bytes. -/
theorem feed_break {l : Link} {k : LinkState} (h : k.rx = .brk) (bytes : List Byte) : feed l k bytes = (k, []) := by
  induction bytes with
  | nil => rfl
  | cons b rest ih => simp [feed, LinkState.byte, h, ih]

/-- Settles O12: the bytes of a frame are held up to its last, which is judged by the CHECK; then the cases of HUNT and
BREAK. -/
theorem framesAreReceivedAsSentOrDiscarded : Obligations.FramesAreReceivedAsSentOrDiscarded := by
  unfold Obligations.FramesAreReceivedAsSentOrDiscarded
  refine ⟨fun l k kind tag body hk hbody => ?frame, fun l k len hk hlen => ?tooLong, fun l k b hk hb => ?hunt,
    fun l k bytes hk => feed_break hk bytes⟩
  case frame =>
    have hlen : (BitVec.ofNat 8 body.length).toNat = body.length := by
      rw [BitVec.toNat_ofNat]
      omega
    have hfits : (BitVec.ofNat 8 body.length).toNat ≤ 240 := hlen.trans_le hbody
    refine ⟨?good, fun n hn hshort => ?held, fun sent c d x y hsent hxy => ?wrongCheck⟩
    case good =>
      exact (feed_frame hk hfits kind tag _ _ hlen.symm).trans (congrArg (hunting k, [·]) (if_pos rfl))
    case held =>
      obtain ⟨m, rfl⟩ := Nat.exists_eq_succ_of_ne_zero hn.ne'
      refine feed_part hk hfits ?_ (List.take_prefix m _)
      rw [List.length_take]
      simp [frameOf, checkBytes] at hshort
      omega
    case wrongCheck =>
      obtain ⟨rfl, hcheck⟩ := List.append_inj' hsent rfl
      have hwrong : checkBytes (BitVec.ofNat 8 body.length :: kind :: tag :: body) ≠ [x, y] := by
        rw [hcheck]
        rintro ⟨⟩
        exact hxy ⟨rfl, rfl⟩
      exact (feed_frame hk hfits kind tag x y hlen.symm).trans (congrArg (hunting k, [·]) (if_neg hwrong))
  case tooLong =>
    rw [feed_sync hk]
    exact feed_last (congrArg (Judged.command l) (judge_tooLong hlen))
  case hunt => simp only [feed, LinkState.byte, hk, if_neg hb, Option.toList_none, List.append_nil]

/-! ### KIND codes (Tables 10-10 to 10-13) -/

theorem mem_all (k : Req) : k ∈ Req.all := by cases k <;> decide

/-- No two requests share a code. -/
theorem code_injective {k r : Req} (h : k.code = r.code) : k = r := by
  have hnodup : (Req.all.map Req.code).Nodup := by decide
  exact List.inj_on_of_nodup_map hnodup (mem_all k) (mem_all r) h

/-- A KIND names the request whose code it is, where the link serves that request (R150). -/
theorem ofKind_code_iff (l : Link) (k r : Req) : Req.ofKind l k.code = some r ↔ r = k ∧ k.servedOn l = true := by
  have hfound : ∀ {q}, Req.ofKind l k.code = some q → q = k ∧ k.servedOn l = true := fun {q} hq => by
    have hpred := List.find?_some hq
    simp only [Bool.and_eq_true, beq_iff_eq] at hpred
    obtain ⟨hcode, hserved⟩ := hpred
    obtain rfl := code_injective hcode
    exact ⟨rfl, hserved⟩
  refine ⟨hfound, ?_⟩
  rintro ⟨rfl, hserved⟩
  have hsome : (Req.ofKind l r.code).isSome = true :=
    List.find?_isSome.mpr ⟨r, mem_all r, by simp [hserved]⟩
  obtain ⟨q, hq⟩ := Option.isSome_iff_exists.mp hsome
  obtain ⟨rfl, -⟩ := hfound hq
  exact hq

/-! ### Sizes of fields (R160) -/

@[simp] theorem length_leBytes (w n : Nat) : (leBytes w n).length = w := by
  induction w generalizing n with
  | zero => rfl
  | succ w ih => simp [leBytes, ih]

@[simp] theorem length_overflowBytes (w : Nat) (x : Int) : (overflowBytes w x).length = w := by simp [overflowBytes]

@[simp] theorem length_natField (w n : Nat) : (natField w n).length = w := by unfold natField; split <;> simp

@[simp] theorem length_intField (w : Nat) (x : Int) : (intField w x).length = w := by
  simp only [intField]
  split <;> simp

@[simp] theorem length_absentField (w : Nat) : (absentField w).length = w := by simp [absentField]

@[simp] theorem length_optNat (w : Nat) (n : Option Nat) : (optNat w n).length = w := by cases n <;> simp [optNat]

@[simp] theorem length_optInt (w : Nat) (x : Option Int) : (optInt w x).length = w := by cases x <;> simp [optInt]

@[simp] theorem length_runField (n : Option Nat) : (runField n).length = 2 := length_natField ..

@[simp] theorem length_flagField (b : Bool) : (flagField b).length = 1 := rfl

@[simp] theorem length_pointField (p : Point) : (pointField p).length = 6 := by simp [pointField]

@[simp] theorem length_wireField (w : Wire) : (wireField w).length = 8 := by cases w <;> simp [wireField]

@[simp] theorem length_optWireField (w : Option Wire) : ((w.map wireField).getD (absentField 8)).length = 8 := by
  cases w <;> simp

@[simp] theorem length_targetField (t : Option Target) : (targetField t).length = 12 := by
  cases t <;> simp [targetField]

/-- A group has its presence byte and its width, present or not. -/
theorem length_groupField {α : Type} {w : Nat} {f : α → List Byte} (hf : ∀ v, (f v).length = w) (v : Option α) :
    (groupField w f v).length = 1 + w := by
  cases v <;> simp [groupField, hf, Nat.add_comm]

/-- A list has its count byte and its entries. -/
theorem length_listField {α : Type} {w : Nat} {f : α → List Byte} (hf : ∀ v, (f v).length = w) (vs : List α) :
    (listField f vs).length = 1 + w * vs.length := by
  induction vs with
  | nil => simp [listField]
  | cons v rest ih =>
    simp only [listField, List.length_append, length_natField, List.flatMap_cons, List.length_cons, hf] at ih ⊢
    rw [Nat.mul_succ]
    omega

theorem length_breakDetailField (d : BreakDetail) : (breakDetailField d).length = 27 := by simp [breakDetailField]

/-- Settles O13: no two codes are equal; each detail is the sum of its fields' widths. -/
theorem kindCodesAndDetailSizes : Obligations.KindCodesAndDetailSizes := by
  unfold Obligations.KindCodesAndDetailSizes
  refine ⟨ofKind_code_iff, fun e => ?_⟩
  cases e with
  | brk d => exact length_breakDetailField d
  | contourState changed => exact length_listField (fun _ => by simp) changed
  | plateState state ident =>
    simp only [Event.detail, List.length_cons, length_groupField (length_natField 4)]
  | runPhase | warn | atLimit | target | stranded | halt | catchNeeded | encoder | violation | inhibit | traceLevel
  | traceOverflow => simp [Event.detail]

/-! ### Requests answered before the blocks (R150, R169) -/

/-- The command of a request's good frame is served on its link by a block of its own, which reads a body exactly where
it has the length of the request. -/
def ServedByBlock (l : Link) (k : Req) (tag : Byte) (body : List Byte) : Prop :=
  ∃ (β : Type) (parsed : Option β) (act : β → State → Answer), parsed.isSome = k.lengthOk body ∧
    ∀ s, exec (k.command l tag body) s = .next (serve l k tag body parsed act s)

theorem servedByBlock {l : Link} {k : Req} (h : k.servedOn l = true) (tag : Byte) (body : List Byte) :
    ServedByBlock l k tag body := by
  cases k with
  | attentionRead | linkErrors | deviceStatus | gapRead => exact ⟨_, _, _, isSome_parseNone body, fun _ => rfl⟩
  | eventMask | eventClear => exact ⟨_, _, _, isSome_parseSet body, fun _ => rfl⟩
  | runContinue | runClose | warnClear | planRead | positionRead | targetRead | wireCut | plateArm | plateDisarm
  | plateClose | plateStatus | faultClear | configRead | traceRead =>
    obtain rfl := eq_of_beq h
    exact ⟨_, _, _, isSome_parseNone body, fun _ => rfl⟩
  | settingChange | runRead | threadBegin | contourRead | holeRead | catchArm | catchDisarm | slugRemoved
  | contourVoid | holeReset =>
    obtain rfl := eq_of_beq h
    exact ⟨_, _, _, isSome_parseByte body, fun _ => rfl⟩
  | runOpen =>
    obtain rfl := eq_of_beq h
    exact ⟨_, _, _, isSome_parseRunOpen body, fun _ => rfl⟩
  | zeroSet =>
    obtain rfl := eq_of_beq h
    exact ⟨_, _, _, isSome_parseZeroSet body, fun _ => rfl⟩
  | threadDone =>
    obtain rfl := eq_of_beq h
    exact ⟨_, _, _, isSome_parseThreadDone body, fun _ => rfl⟩
  | plateBegin =>
    obtain rfl := eq_of_beq h
    exact ⟨_, _, _, isSome_parseWord body, fun _ => rfl⟩
  | contourLoad =>
    obtain rfl := eq_of_beq h
    exact ⟨_, _, _, isSome_parseContourLoad body, fun _ => rfl⟩
  | vertexAppend =>
    obtain rfl := eq_of_beq h
    exact ⟨_, _, _, isSome_parseVertexAppend body, fun _ => rfl⟩
  | holeLoad =>
    obtain rfl := eq_of_beq h
    exact ⟨_, _, _, isSome_parseHoleLoad body, fun _ => rfl⟩
  | vertexRead =>
    obtain rfl := eq_of_beq h
    exact ⟨_, _, _, isSome_parseVertexRead body, fun _ => rfl⟩
  | configWrite =>
    obtain rfl := eq_of_beq h
    exact ⟨_, _, _, isSome_parseConfig body, fun _ => rfl⟩

theorem deviceBar_starting {k : Req} (h : k ≠ .deviceStatus) : deviceBar k .starting = some .starting := if_neg h

theorem deviceBar_failed {k : Req} (h : k ≠ .deviceStatus) : deviceBar k .failed = some .fault := if_neg h

/-- Settles O14: every request is served in the one way, whose order the laws of `serve` give. -/
theorem requestsAnsweredBeforeTheBlocks : Obligations.RequestsAnsweredBeforeTheBlocks := by
  unfold Obligations.RequestsAnsweredBeforeTheBlocks
  intro l k tag body s hk hr
  obtain ⟨β, parsed, act, hparsed, hexec⟩ := servedByBlock hk tag body
  rw [hexec, ← hparsed]
  refine ⟨fun hbusy => ?overrun, fun hbusy hlen => ?range, fun hbusy hlen hne hd => ?starting,
    fun hbusy hlen hne hd => ?failed⟩
  case overrun => rw [serve_of_busy tag body parsed act hr hbusy]
  case range =>
    have hnone : parsed = none := Option.not_isSome_iff_eq_none.mp (by simp [hlen])
    rw [serve_of_unreadable tag body parsed act hr hbusy hk hnone]
  case starting => rw [serve_of_barred tag body parsed act _ hr hbusy hk hlen (hd ▸ deviceBar_starting hne)]
  case failed => rw [serve_of_barred tag body parsed act _ hr hbusy hk hlen (hd ▸ deviceBar_failed hne)]

/-! ### ATTENTION_READ, LINK_ERRORS (R152, R155) -/

theorem exec_attentionRead (tag : Byte) {l : Link} {s : State} (h : Serves l .attentionRead s) :
    exec (.attentionRead l tag []) s = .next (replied l .attentionRead tag (attentionBody (s.link l))
      (drive (s.modLink l (fun k => k.cleared k.masked)))) :=
  congrArg Host.Outcome.next (serve_of_serves tag [] (parseNone []) () (attentionRead l) h rfl)

theorem exec_linkErrors (tag : Byte) {l : Link} {s : State} (h : Serves l .linkErrors s) :
    exec (.linkErrors l tag []) s = .next (replied l .linkErrors tag (linkErrorsBody (s.link l))
      (s.modLink l (fun k => { k with errors := [] }))) :=
  congrArg Host.Outcome.next (serve_of_serves tag [] (parseNone []) () (linkErrors l) h rfl)

/-- Settles O15: the bodies report the link as it stood, the state is the one cleared. -/
theorem attentionReadAndLinkErrorsReportAndClear : Obligations.AttentionReadAndLinkErrorsReportAndClear :=
  ⟨fun _ tag _ h => ⟨_, exec_attentionRead tag h, rfl⟩, fun _ tag _ h => exec_linkErrors tag h⟩

/-! ### EVENT_MASK, EVENT_CLEAR (R156, R157) -/

/-- The event set that a body of two bytes carries, low byte first. -/
def carriedSet (a b : Byte) : EventSet := BitVec.ofNat 16 (leNat [a, b])

theorem toNat_carriedSet (a b : Byte) : (carriedSet a b).toNat = a.toNat + 256 * b.toNat := by
  simp only [carriedSet, leNat, BitVec.toNat_ofNat]
  omega

theorem exec_eventMask (tag a b : Byte) {l : Link} {s : State} (h : Serves l .eventMask s) :
    exec (.eventMask l tag [a, b]) s = .next (replied l .eventMask tag
      (0 :: leBytes 2 (carriedSet a b &&& routed l).toNat)
      (drive (s.modLink l (fun k => { k with mask := carriedSet a b &&& routed l })))) := by
  have hmask : ((drive (s.modLink l (fun k => { k with mask := carriedSet a b &&& routed l }))).link l).mask =
      carriedSet a b &&& routed l := by simp
  refine (congrArg Host.Outcome.next
    (serve_of_serves tag [a, b] (parseSet [a, b]) (carriedSet a b) (eventMask l) h rfl)).trans ?_
  rw [eventMask, finish_accepted, hmask]
  rfl

theorem exec_eventClear (tag a b : Byte) {l : Link} {s : State} (h : Serves l .eventClear s) :
    let t := drive (s.modLink l (fun k => k.cleared (carriedSet a b)))
    exec (.eventClear l tag [a, b]) s =
      .next (replied l .eventClear tag (0 :: leBytes 2 (rawBits (t.link l).raw).toNat) t) :=
  congrArg Host.Outcome.next
    (serve_of_serves tag [a, b] (parseSet [a, b]) (carriedSet a b) (eventClear l) h rfl)

/-- A posting does not look at the mask (R153). -/
theorem posted_raw_of_mask (k : LinkState) (l : Link) (e : Event) (set : EventSet) :
    (LinkState.posted { k with mask := set } l e).raw = (k.posted l e).raw := by
  unfold LinkState.posted
  split <;> rfl

theorem mask_deviceReset (s : State) (l : Link) : ((deviceReset s).link l).mask = routed l := by cases l <;> rfl

theorem exec_linkReset (l : Link) {s : State} (h : s.resetLow = false) :
    exec (.linkReset l) s = .next (driveAttn (s.modLink l (fun k => k.afterReset l))) := by
  simp [exec, execLinkReset, h]

/-- Settles O16: the two requests, a posting past the mask, and the mask after either reset. -/
theorem eventMaskAndEventClear : Obligations.EventMaskAndEventClear := by
  unfold Obligations.EventMaskAndEventClear
  refine ⟨fun l tag a b s h => ⟨carriedSet a b, toNat_carriedSet a b, exec_eventMask tag a b h⟩,
    fun l set e s => ?posting, fun l s => ⟨_, rfl, mask_deviceReset s l⟩,
    fun l s h => ⟨_, exec_linkReset l h, ?linkReset⟩,
    fun l tag a b s h => ⟨carriedSet a b, _, toNat_carriedSet a b, rfl, exec_eventClear tag a b h⟩⟩
  case posting =>
    rw [post_link, post_link, link_modLink]
    exact posted_raw_of_mask ..
  case linkReset =>
    rw [driveAttn_link, link_modLink]
    rfl

/-! ### Discarded frames (R149, R150, R152) -/

/-- Two changes of one link are one. -/
theorem modLink_modLink (s : State) (l : Link) (f g : LinkState → LinkState) :
    (s.modLink l f).modLink l g = s.modLink l (fun k => g (f k)) := by
  cases l <;> rfl

theorem discardFrame_of_receives (code : LinkErr) (kind tag : Option Byte) {l : Link} {s : State}
    (h : s.receives l = true) : discardFrame l code kind tag s = s.modLink l (fun k => { k with
      rx := .hunt, part := [], gapTime := 0, errors := addError k.errors ⟨code, kind, tag⟩ }) := by
  rw [discardFrame, if_pos h, toHunt, recordError, modLink_modLink]

/-- Settles O20: every such event discards its frame, FRAME_OVERRUN while a request is in progress. -/
theorem discardedFramesAreRecorded : Obligations.DiscardedFramesAreRecorded := by
  unfold Obligations.DiscardedFramesAreRecorded
  intro l s hr
  have hdiscard code kind tag := congrArg (Host.Outcome.next (φ := Fault) (ρ := Refusal))
    (discardFrame_of_receives code kind tag hr)
  refine ⟨fun kind tag => hdiscard .check _ _, hdiscard .length _ _, hdiscard .gap _ _, fun kind => hdiscard .gap _ _,
    fun kind tag => hdiscard .gap _ _, fun kind tag hbusy => ?_⟩
  have hoverrun : exec (.frameOverrun l kind tag) s = .next (discardFrame l .overrun (some kind) (some tag) s) :=
    congrArg Host.Outcome.next (if_pos hbusy)
  exact hoverrun.trans (hdiscard .overrun _ _)

/-! ### UNKNOWN_KIND and the events of a link (R148, R150, R151, R158) -/

/-- The reply's KIND is the request's plus 0x80 where that fits; otherwise a free value, and one is taken (log 7). -/
theorem unknownReplyKind_eq (kind : Byte) (s : State) : ∃ (r : Byte) (n : Nat),
    (kind.toNat < 128 → r = kind + 0x80 ∧ n = s.freeCount) ∧
      unknownReplyKind kind s = (r, { s with freeCount := n }) := by
  by_cases hfits : kind.toNat < 128
  · exact ⟨_, _, fun _ => ⟨rfl, rfl⟩, if_pos hfits⟩
  · exact ⟨_, _, fun h => absurd h hfits, if_neg hfits⟩

theorem exec_unknownKind (kind tag : Byte) {l : Link} {s : State} (hr : s.receives l = true)
    (hbusy : (s.link l).busy = none) (hkind : Req.ofKind l kind = none) : exec (.unknownKind l kind tag) s =
      .next (answerWith l (unknownReplyKind kind s).1 kind tag [0x09] (unknownReplyKind kind s).2) := by
  simp [exec, execUnknownKind, unknownKind, hr, hbusy, hkind, Status.code]

theorem exec_replySent {l : Link} {p : InProgress} {frame : List Byte} {s : State} (h : s.resetLow = false)
    (hbusy : (s.link l).busy = some p) (hreply : p.reply = some frame) :
    exec (.replySent l) s = .next (s.modLink l (fun k => { k with busy := none })) := by
  simp [exec, execReplySent, h, hbusy, hreply, InProgress.replying]

theorem exec_linkBreakEnd {l : Link} {s : State} (h : (s.link l).rx = .brk) :
    exec (.linkBreakEnd l) s = .next (s.modLink l (fun k => { k with rx := .hunt })) :=
  congrArg Host.Outcome.next (if_pos h)

/-- Settles O21: one equation for each of the four events. -/
theorem unknownKindAndLinkEvents : Obligations.UnknownKindAndLinkEvents := by
  unfold Obligations.UnknownKindAndLinkEvents
  refine ⟨fun l kind tag s hr hbusy hkind => ?unknown, fun l p frame s h hbusy hreply => exec_replySent h hbusy hreply,
    fun l s h => exec_linkReset l h, fun l s h => exec_linkBreakEnd h⟩
  obtain ⟨r, n, hfits, hreply⟩ := unknownReplyKind_eq kind s
  refine ⟨r, n, hfits, ?_⟩
  rw [exec_unknownKind kind tag hr hbusy hkind, hreply]

end Sys2Proof.LinkInterfaces
end

section
/-! SUPPORT. Configuration, trace and start-up (chapters 10 and 11): the values after a device reset, request bodies and
the configuration record read back, the trace record of a sample and TRACE_READ; the statements settled from these
rules. -/

namespace Sys2Proof.ConfigTraceStartUp

open Sys2Proof.Machine Sys2Proof.Safety Sys2Proof.AxisPosition Sys2Proof.Runs Sys2Proof.Permits
  Sys2Proof.LinkInterfaces

/-! ### Device reset (R168) -/

section
variable (s : State)

theorem exec_deviceReset : exec .deviceReset s = .next (deviceReset s) := rfl

@[simp] theorem deviceReset_plate : (deviceReset s).plate = Plate.reset := rfl

@[simp] theorem deviceReset_axis (a : Axis) : (deviceReset s).axis a = Channel.reset := by cases a <;> rfl

@[simp] theorem deviceReset_prog : (deviceReset s).prog = Progress.idle := rfl

@[simp] theorem deviceReset_gap : (deviceReset s).gap = Gap.reset := rfl

@[simp] theorem deviceReset_planner : (deviceReset s).planner = Planner.reset := rfl

@[simp] theorem deviceReset_trace : (deviceReset s).trace = Trace.reset := rfl

/-- Each link's mask enables every kind routed to it (R156, R168). -/
@[simp] theorem deviceReset_link (l : Link) : (deviceReset s).link l = LinkState.reset (routed l) := by cases l <;> rfl

/-- The items that stand outside those records, and what stays (log 3, 4, 5). -/
theorem deviceReset_items :
    (deviceReset s).sampling = .none ∧ (deviceReset s).run = none ∧ (deviceReset s).lastRun = none ∧
    (deviceReset s).runCounter = 0 ∧ (deviceReset s).catchSet = [] ∧ (deviceReset s).cfg = ConfigRecord.reset ∧
    (deviceReset s).sparkOk = false ∧ (deviceReset s).threadOk = false ∧ (deviceReset s).holdIn = false ∧
    (deviceReset s).resetLow = true ∧ (deviceReset s).device = .starting ∧ (deviceReset s).selfTest = .running ∧
    (deviceReset s).selfTestLeft = 400000 ∧ (deviceReset s).shortIn = s.shortIn ∧
    (deviceReset s).pending = s.pending ∧ (deviceReset s).freeCount = s.freeCount :=
  ⟨rfl, rfl, rfl, rfl, rfl, rfl, rfl, rfl, rfl, rfl, rfl, rfl, rfl, rfl, rfl, rfl⟩

end

/-- After a device reset the map is empty, and the whole pool is free (R2, R5). -/
theorem free_reset : Plate.reset.free = 4096 := rfl

/-- Settles O3: block by block from the reset records. -/
theorem deviceResetLeavesSpecValues : Obligations.DeviceResetLeavesSpecValues := by
  unfold Obligations.DeviceResetLeavesSpecValues
  intro s
  refine ⟨_, exec_deviceReset s, ?_⟩
  simp only [deviceReset_plate, deviceReset_axis, deviceReset_prog, deviceReset_gap, deviceReset_planner,
    deviceReset_trace, deviceReset_link, deviceReset_items s, free_reset]
  simp [Plate.reset, Channel.reset, Progress.idle, Gap.reset, Planner.reset, Trace.reset, LinkState.reset]

/-! ### The invariants after reset -/

theorem reset_link (l : Link) : State.reset.link l = LinkState.reset (routed l) := by cases l <;> rfl

/-- In STARTING both permits are low, and nothing is pending on a link (R143, R168). -/
theorem driven_reset : Driven State.reset :=
  ⟨(sparkCond_of_not_ready (by decide)).symm, (threadCond_of_not_ready _ (by decide)).symm, fun l => by
    rw [reset_link, attnLevel_reset]; rfl⟩

theorem canonical_reset : Canonical State.reset := ⟨rfl, rfl, fun l => by rw [reset_link]; rfl⟩

theorem poolHolds_reset : PoolHolds State.reset := ⟨rfl, rfl, Nat.zero_le _⟩

theorem withinSizes_reset : WithinSizes State.reset :=
  ⟨Nat.zero_le _, Nat.zero_le _, Nat.zero_le _, Nat.zero_le _, fun _ => rfl, fun l => by
    rw [reset_link]; exact ⟨Nat.zero_le _, BitVec.and_self⟩⟩

/-- No run is open, no target posted and no sample in progress. -/
theorem runCoherent_reset : RunCoherent State.reset := by
  refine ⟨fun run hrun => ?_, ⟨fun htarget => ?_, fun ⟨run, hrun, _⟩ => ?_⟩, fun p k b hsampling => ?_⟩
  · exact absurd hrun (Option.some_ne_none run).symm
  · exact absurd htarget Bool.false_ne_true
  · exact absurd hrun (Option.some_ne_none run).symm
  · exact absurd hsampling Sampling.noConfusion

/-- Settles O5: each invariant by itself. -/
theorem invariantsHoldAtReset : Obligations.InvariantsHoldAtReset :=
  ⟨driven_reset, canonical_reset, poolHolds_reset, withinSizes_reset, runCoherent_reset⟩

/-! ### Signed fields and points read back (10.7) -/

/-- A number of at most half the range stands for itself, a negative one for its sum with the whole range. -/
theorem emod_of_signed {m x : Int} (hlo : -m ≤ 2 * x) (hhi : 2 * x < m) : x % m = if 0 ≤ x then x else x + m := by
  split
  · exact Int.emod_eq_of_lt (by omega) (by omega)
  · rw [← Int.add_emod_right, Int.emod_eq_of_lt (by omega) (by omega)]

/-- A signed number in its range is read back from its bytes. -/
theorem leInt_leBytes {w : Nat} {x : Int} (hlo : -((256 ^ w : Nat) : Int) ≤ 2 * x)
    (hhi : 2 * x < ((256 ^ w : Nat) : Int)) : leInt (leBytes w (x % ((256 ^ w : Nat) : Int)).toNat) = x := by
  have hmod := emod_of_signed hlo hhi
  have hfits : (x % ((256 ^ w : Nat) : Int)).toNat < 256 ^ w := toNat_emod_lt x (Nat.pow_pos (by decide))
  simp only [leInt, length_leBytes]
  rw [leNat_leBytes w _ hfits, hmod]
  by_cases hx : 0 ≤ x
  · rw [if_pos hx, if_pos (by omega)]
    omega
  · rw [if_neg hx, if_neg (by omega)]
    omega

/-- The coordinates that the bytes of a point can hold. -/
def Fits (p : Point) : Prop := -8388608 ≤ p.x ∧ p.x ≤ 8388607 ∧ -8388608 ≤ p.y ∧ p.y ≤ 8388607

theorem leInt_coordinate {x : Int} (hlo : -8388608 ≤ x) (hhi : x ≤ 8388607) :
    leInt (leBytes 3 (x % 16777216).toNat) = x :=
  leInt_leBytes (w := 3) (by omega) (by omega)

/-- The first point of a list comes first. -/
theorem parsePoints_pointBytes_append {p : Point} (h : Fits p) (rest : List Byte) :
    parsePoints (pointBytes p ++ rest) = p :: parsePoints rest := by
  obtain ⟨hx, hx', hy, hy'⟩ := h
  have hread : parsePoints (pointBytes p ++ rest) =
      ⟨leInt (leBytes 3 (p.x % 16777216).toNat), leInt (leBytes 3 (p.y % 16777216).toNat)⟩ :: parsePoints rest := rfl
  rw [hread, leInt_coordinate hx hx', leInt_coordinate hy hy']

theorem parsePoints_flatMap {ps : List Point} (h : ∀ p ∈ ps, Fits p) : parsePoints (ps.flatMap pointBytes) = ps := by
  induction ps with
  | nil => rfl
  | cons p rest ih =>
    obtain ⟨hp, hrest⟩ := List.forall_mem_cons.mp h
    rw [List.flatMap_cons, parsePoints_pointBytes_append hp, ih hrest]

theorem length_pointBytes (p : Point) : (pointBytes p).length = 6 := by simp [pointBytes]

/-- Entries of one width take that width each. -/
theorem length_flatMap_of_width {α : Type} {f : α → List Byte} {w : Nat} (hf : ∀ v, (f v).length = w) (vs : List α) :
    (vs.flatMap f).length = w * vs.length := by
  simp [List.length_flatMap, hf, Nat.mul_comm]

/-! ### Tabs read back (Table 10-7) -/

/-- The ends that the bytes of a tab can hold. -/
def TabFits (t : DeclTab) : Prop :=
  t.start.seg < 65536 ∧ t.start.off < 4294967296 ∧ t.stop.seg < 65536 ∧ t.stop.off < 4294967296

theorem parseTabs_tabBytes_append {t : DeclTab} (h : TabFits t) (rest : List Byte) :
    parseTabs (tabBytes t ++ rest) = t :: parseTabs rest := by
  obtain ⟨hseg, hoff, hseg', hoff'⟩ := h
  have hread : parseTabs (tabBytes t ++ rest) =
      ⟨⟨leNat (leBytes 2 t.start.seg), leNat (leBytes 4 t.start.off)⟩,
        ⟨leNat (leBytes 2 t.stop.seg), leNat (leBytes 4 t.stop.off)⟩⟩ :: parseTabs rest := rfl
  rw [hread, leNat_leBytes 2 _ hseg, leNat_leBytes 4 _ hoff, leNat_leBytes 2 _ hseg', leNat_leBytes 4 _ hoff']

theorem parseTabs_flatMap {ts : List DeclTab} (h : ∀ t ∈ ts, TabFits t) : parseTabs (ts.flatMap tabBytes) = ts := by
  induction ts with
  | nil => rfl
  | cons t rest ih =>
    obtain ⟨ht, hrest⟩ := List.forall_mem_cons.mp h
    rw [List.flatMap_cons, parseTabs_tabBytes_append ht, ih hrest]

theorem length_tabBytes (t : DeclTab) : (tabBytes t).length = 12 := by simp [tabBytes]

/-! ### Request bodies read back (Tables 10-7, 10-8, 10-15) -/

/-- A number that fits a byte is read back from it. -/
theorem toNat_byte {n : Nat} (h : n < 256) : (BitVec.ofNat 8 n).toNat = n :=
  (BitVec.toNat_ofNat n 8).trans (Nat.mod_eq_of_lt h)

theorem parseRunOpen_body {q : RunOpenReq} (hc : q.contour < 256) (hh : q.hole < 256) (hk : q.kind < 256)
    (hd : q.dir < 256) (hs : q.setting < 256) : parseRunOpen q.body = some q := by
  have hread : parseRunOpen q.body = some ⟨(BitVec.ofNat 8 q.contour).toNat, (BitVec.ofNat 8 q.hole).toNat,
    (BitVec.ofNat 8 q.kind).toNat, (BitVec.ofNat 8 q.dir).toNat, (BitVec.ofNat 8 q.setting).toNat⟩ := rfl
  rw [hread, toNat_byte hc, toNat_byte hh, toNat_byte hk, toNat_byte hd, toNat_byte hs]

theorem parseThreadDone_body {q : ThreadDoneReq} (hn : q.number < 256) (hr : q.result < 256) :
    parseThreadDone q.body = some q := by
  have hread : parseThreadDone q.body =
    some ⟨(BitVec.ofNat 8 q.number).toNat, (BitVec.ofNat 8 q.result).toNat⟩ := rfl
  rw [hread, toNat_byte hn, toNat_byte hr]

theorem parseVertexRead_body {q : VertexReadReq} (hc : q.contour < 256) (hf : q.first < 65536) (hn : q.count < 256) :
    parseVertexRead q.body = some q := by
  have hread : parseVertexRead q.body = some ⟨(BitVec.ofNat 8 q.contour).toNat, leNat (leBytes 2 q.first),
    (BitVec.ofNat 8 q.count).toNat⟩ := rfl
  rw [hread, toNat_byte hc, leNat_leBytes 2 _ hf, toNat_byte hn]

theorem parseContourLoad_body {q : ContourLoadReq} (hi : q.index < 256) (hk : q.cls < 256) (hw : q.width < 65536)
    (hn : q.tabs.length < 256) (ht : ∀ t ∈ q.tabs, TabFits t) : parseContourLoad q.body = some q := by
  have hread : parseContourLoad q.body =
      if (q.tabs.flatMap tabBytes).length = 12 * (BitVec.ofNat 8 q.tabs.length).toNat then
        some ⟨(BitVec.ofNat 8 q.index).toNat, (BitVec.ofNat 8 q.cls).toNat, leNat (leBytes 2 q.width),
          parseTabs (q.tabs.flatMap tabBytes)⟩
      else none := rfl
  rw [hread, toNat_byte hn, if_pos (length_flatMap_of_width length_tabBytes _), toNat_byte hi, toNat_byte hk,
    leNat_leBytes 2 _ hw, parseTabs_flatMap ht]

theorem parseVertexAppend_body {q : VertexAppendReq} (hc : q.contour < 256) (hn : q.points.length < 256)
    (hp : ∀ p ∈ q.points, Fits p) : parseVertexAppend q.body = some q := by
  have hread : parseVertexAppend q.body =
      if (q.points.flatMap pointBytes).length = 6 * (BitVec.ofNat 8 q.points.length).toNat then
        some ⟨(BitVec.ofNat 8 q.contour).toNat, parsePoints (q.points.flatMap pointBytes)⟩
      else none := rfl
  rw [hread, toNat_byte hn, if_pos (length_flatMap_of_width length_pointBytes _), toNat_byte hc,
    parsePoints_flatMap hp]

theorem parseHoleLoad_body {q : HoleLoadReq} (hi : q.index < 256) (ho : q.owner < 256) (hl : q.loc < 256)
    (hd : q.dirs < 256) (hn : q.leadIn.length < 256) (hc : Fits q.centre) (hp : ∀ p ∈ q.leadIn, Fits p) :
    parseHoleLoad q.body = some q := by
  obtain ⟨hx, hx', hy, hy'⟩ := hc
  have hread : parseHoleLoad q.body =
      if (q.leadIn.flatMap pointBytes).length = 6 * (BitVec.ofNat 8 q.leadIn.length).toNat then
        some ⟨(BitVec.ofNat 8 q.index).toNat, (BitVec.ofNat 8 q.owner).toNat, (BitVec.ofNat 8 q.loc).toNat,
          (BitVec.ofNat 8 q.dirs).toNat,
          ⟨leInt (leBytes 3 (q.centre.x % 16777216).toNat), leInt (leBytes 3 (q.centre.y % 16777216).toNat)⟩,
          parsePoints (q.leadIn.flatMap pointBytes)⟩
      else none := rfl
  rw [hread, toNat_byte hn, if_pos (length_flatMap_of_width length_pointBytes _), toNat_byte hi, toNat_byte ho,
    toNat_byte hl, toNat_byte hd, leInt_coordinate hx hx', leInt_coordinate hy hy', parsePoints_flatMap hp]

/-! ### The configuration record read back (Table 10-16) -/

theorem clampNat_clampNat (lo hi n : Nat) : clampNat lo hi (clampNat lo hi n) = clampNat lo hi n := by
  unfold clampNat
  omega

theorem clampNat_lt {lo hi m : Nat} (hlo : lo < m) (hhi : hi < m) (n : Nat) : clampNat lo hi n < m := by
  unfold clampNat
  omega

/-- A field behind some bytes. -/
theorem fieldAt_append {front : List Byte} {v off : Nat} (hlen : front.length = v) (h : v ≤ off) (rest : List Byte)
    (w : Nat) : fieldAt (front ++ rest) off w = fieldAt rest (off - v) w := by
  subst hlen
  rw [fieldAt, List.drop_append, List.drop_eq_nil_of_le h, List.nil_append, fieldAt]

/-- The number at the front of some bytes. -/
theorem fieldAt_natField {w n : Nat} (h : n < 256 ^ w) (rest : List Byte) : fieldAt (natField w n ++ rest) 0 w = n := by
  have htake : (natField w n ++ rest).take w = natField w n := List.take_left' (length_natField w n)
  rw [fieldAt, List.drop_zero, htake, natField, if_pos h, leNat_leBytes w n h]

theorem fieldAt_natField_last {w n : Nat} (h : n < 256 ^ w) : fieldAt (natField w n) 0 w = n := by
  rw [← List.append_nil (natField w n), fieldAt_natField h]

theorem fieldAt_natField_later {v off : Nat} (n : Nat) (rest : List Byte) (w : Nat) (h : v ≤ off) :
    fieldAt (natField v n ++ rest) off w = fieldAt rest (off - v) w :=
  fieldAt_append (length_natField v n) h rest w

/-- The flag at the front of some bytes. -/
theorem fieldAt_flagField (b : Bool) (rest : List Byte) :
    fieldAt (flagField b ++ rest) 0 1 = if b then 1 else 0 := by
  cases b <;> rfl

theorem fieldAt_flagField_later {off : Nat} (b : Bool) (rest : List Byte) (w : Nat) (h : 1 ≤ off) :
    fieldAt (flagField b ++ rest) off w = fieldAt rest (off - 1) w :=
  fieldAt_append rfl h rest w

/-- An entry of the settings table, centre and band (Table 10-16). -/
def settingField (e : Nat × Nat) : List Byte := natField 2 e.1 ++ natField 1 e.2

theorem settingField_eq : (fun e : Nat × Nat => natField 2 e.1 ++ natField 1 e.2) = settingField := rfl

theorem length_settingField (e : Nat × Nat) : (settingField e).length = 3 := by simp [settingField]

theorem fieldAt_settingField_later (e : Nat × Nat) (rest : List Byte) (off w : Nat) :
    fieldAt (settingField e ++ rest) (3 + off) w = fieldAt rest off w := by
  rw [fieldAt_append (length_settingField e) (by omega), Nat.add_sub_cancel_left]

theorem length_settings {es : List (Nat × Nat)} (h : es.length = 8) : (es.flatMap settingField).length = 24 := by
  rw [length_flatMap_of_width length_settingField, h]

theorem fieldAt_settings_later {es : List (Nat × Nat)} (hes : es.length = 8) {off : Nat} (rest : List Byte) (w : Nat)
    (h : 24 ≤ off) : fieldAt (es.flatMap settingField ++ rest) off w = fieldAt rest (off - 24) w :=
  fieldAt_append (length_settings hes) h rest w

/-- Each entry of the settings table stands three bytes behind the one before it. -/
theorem fieldAt_settings {es : List (Nat × Nat)} {i : Nat} {e : Nat × Nat} (he : es[i]? = some e)
    (hcentre : e.1 < 256 ^ 2) (hband : e.2 < 256 ^ 1) (rest : List Byte) :
    fieldAt (es.flatMap settingField ++ rest) (3 * i) 2 = e.1 ∧
      fieldAt (es.flatMap settingField ++ rest) (3 * i + 2) 1 = e.2 := by
  induction es generalizing i with
  | nil => simp at he
  | cons d es ih =>
    rw [List.flatMap_cons, List.append_assoc]
    cases i with
    | zero =>
      obtain rfl : d = e := by simpa using he
      simp only [settingField, List.append_assoc]
      exact ⟨fieldAt_natField hcentre _,
        (fieldAt_natField_later _ _ 1 (Nat.le_refl 2)).trans (fieldAt_natField hband _)⟩
    | succ i =>
      rw [show 3 * (i + 1) = 3 + 3 * i by omega, Nat.add_assoc, fieldAt_settingField_later,
        fieldAt_settingField_later]
      exact ih (by simpa using he)

/-- The record's bytes are its fields in the order of Table 10-16, the settings table from byte 37. -/
theorem configFields_around_settings (c : ConfigRecord) :
    ∃ front rest, front.length = 37 ∧ configFields c = front ++ (c.settings.flatMap settingField ++ rest) := by
  unfold configFields
  refine ⟨_, _, ?length, by rw [List.append_assoc, List.append_assoc, List.append_assoc]; rfl⟩
  simp

/-- An entry of the settings table as a CONFIG_WRITE gives it, each number within its range (Table 11-1). -/
def settingAt (b : List Byte) (i : Nat) : Nat × Nat :=
  (clampNat 0 65535 (fieldAt b (37 + 3 * i) 2), clampNat 0 255 (fieldAt b (39 + 3 * i) 1))

theorem settingAt_eq (b : List Byte) (i : Nat) :
    (clampNat 0 65535 (fieldAt b (37 + 3 * i) 2), clampNat 0 255 (fieldAt b (39 + 3 * i) 1)) = settingAt b i := rfl

theorem settings_clampedConfig (b : List Byte) : (clampedConfig b).settings = (List.range 8).map (settingAt b) := rfl

theorem settingAt_configFields (b : List Byte) {i : Nat} (hi : i < 8) :
    settingAt (configFields (clampedConfig b)) i = settingAt b i := by
  obtain ⟨front, rest, hlen, hfields⟩ := configFields_around_settings (clampedConfig b)
  have hentry : (clampedConfig b).settings[i]? = some (settingAt b i) := by simp [settings_clampedConfig, hi]
  obtain ⟨hcentre, hband⟩ := fieldAt_settings hentry
    (clampNat_lt (by decide) (by decide) _) (clampNat_lt (by decide) (by decide) _) rest
  rw [settingAt, hfields, fieldAt_append hlen (by omega), fieldAt_append hlen (by omega),
    show 37 + 3 * i - 37 = 3 * i by omega, show 39 + 3 * i - 37 = 3 * i + 2 by omega, hcentre, hband]
  simp only [settingAt, clampNat_clampNat]

theorem settings_configFields (b : List Byte) :
    (List.range 8).map (settingAt (configFields (clampedConfig b))) = (clampedConfig b).settings :=
  List.map_congr_left fun _ hi => settingAt_configFields b (List.mem_range.mp hi)

/-- The byte of warn_mode tells its two codes apart (log 37). -/
theorem warnMode_of_flag (m : WarnMode) :
    (if (if (m == .latched) = true then 1 else 0) = 0 then WarnMode.level else .latched) = m := by
  cases m <;> rfl

theorem settleOnResume_of_flag (b : Bool) : ((if b = true then 1 else 0) != 0) = b := by
  cases b <;> rfl

/-- A record from some bytes is read back whole: each field is reached over the ones before it, and holds a number that
its range has already bounded (R162). -/
theorem clampedConfig_configFields (b : List Byte) :
    clampedConfig (configFields (clampedConfig b)) = clampedConfig b := by
  have hsettings := settings_configFields b
  have hlen : (clampedConfig b).settings.length = 8 := rfl
  generalize hc : clampedConfig b = c at hsettings hlen ⊢
  unfold clampedConfig
  simp only [settingAt_eq, hsettings]
  unfold configFields
  simp only [settingField_eq, fieldAt_natField_later, fieldAt_flagField_later, fieldAt_settings_later hlen,
    List.append_assoc, Nat.reduceLeDiff, Nat.reduceSub, fieldAt_flagField, warnMode_of_flag, settleOnResume_of_flag]
  subst hc
  simp only [clampedConfig, fieldAt_natField, fieldAt_natField_last, clampNat_lt, clampNat_clampNat, Nat.reducePow,
    Nat.reduceLT]

theorem length_configFields {c : ConfigRecord} (h : c.settings.length = 8) : (configFields c).length = 64 := by
  unfold configFields
  simp only [settingField_eq, List.length_append, length_natField, length_flagField, length_settings h]

theorem parseConfig_configFields {body : List Byte} {c : ConfigRecord} (h : parseConfig body = some c) :
    parseConfig (configFields c) = some c := by
  obtain ⟨-, rfl⟩ : body.length = 64 ∧ clampedConfig body = c := by simpa [parseConfig] using h
  rw [parseConfig, if_pos (length_configFields rfl), clampedConfig_configFields]

/-- Settles O11: one lemma per body, and the record's fields in the order of Table 10-16. -/
theorem requestBodiesAndConfigReadBack : Obligations.RequestBodiesAndConfigReadBack :=
  ⟨fun _ hc hh hk hd hs => parseRunOpen_body hc hh hk hd hs, parseZeroSet_body,
    fun _ hn hr => parseThreadDone_body hn hr, fun _ hc hf hn => parseVertexRead_body hc hf hn,
    fun _ hi hk hw hn ht => parseContourLoad_body hi hk hw hn ht,
    fun _ hc hn hp => parseVertexAppend_body hc hn hp,
    fun _ hi ho hl hd hn hx hx' hy hy' hp => parseHoleLoad_body hi ho hl hd hn ⟨hx, hx', hy, hy'⟩ hp,
    fun _ _ h => parseConfig_configFields h⟩

/-! ### Pending events of some kinds (R153) -/

/-- Reading an entry that a filter keeps. -/
theorem get?_filter {α : Type} (t : Table α) {p : Nat × α → Bool} {i : Nat} (hp : ∀ v, p (i, v) = true) :
    Table.get? (t.filter p) i = Table.get? t i := by
  induction t with
  | nil => rfl
  | cons e rest ih =>
    obtain ⟨k, v⟩ := e
    by_cases hk : k = i
    · subst hk
      simp [hp, Table.get?_cons]
    · cases hkv : p (k, v) <;> simp [hkv, Table.get?_cons, hk, ih]

/-- Writing an entry that a filter drops. -/
theorem filter_set {α : Type} (t : Table α) {p : Nat × α → Bool} {i : Nat} (hp : ∀ v, p (i, v) = false) (v : α) :
    (Table.set t i v).filter p = t.filter p := by
  induction t with
  | nil => simp [Table.set, hp]
  | cons e rest ih =>
    obtain ⟨k, w⟩ := e
    unfold Table.set
    split
    · simp [hp]
    · split
      next heq =>
        subst heq
        simp [hp]
      next => simp [List.filter_cons, ih]

/-- The pending TRACE_LEVEL and TRACE_OVERFLOW of a link, with their details (Table 10-2). -/
def traceEvents (k : LinkState) : Table Event := k.raw.filter (fun e => decide (e.1 = 13 ∨ e.1 = 14))

/-- Another kind leaves them. -/
theorem traceEvents_posted (k : LinkState) (l : Link) {e : Event} (h : e.bit < 13) :
    traceEvents (k.posted l e) = traceEvents k := by
  unfold LinkState.posted
  split
  · exact filter_set k.raw (fun _ => decide_eq_false (by dsimp only; omega)) _
  · rfl

theorem get?_traceEvents (k : LinkState) {b : Nat} (h : b = 13 ∨ b = 14) :
    Table.get? (traceEvents k) b = Table.get? k.raw b :=
  get?_filter k.raw fun _ => decide_eq_true h

/-! ### What the parts of a sample leave to its trace record (R40, R165) -/

/-- What a trace record is formed from has stayed, and the pending trace events of the Cell Link with it; of the run
record its number alone is spoken of. -/
structure TraceKept (s t : State) : Prop where
  trace : t.trace = s.trace
  cfg : t.cfg = s.cfg
  prog : t.prog = s.prog
  shortSince : t.gap.shortSince = s.gap.shortSince
  episode : t.gap.episode = s.gap.episode
  number : t.run.map (·.number) = s.run.map (·.number)
  events : traceEvents t.cell = traceEvents s.cell

theorem TraceKept.refl (s : State) : TraceKept s s := ⟨rfl, rfl, rfl, rfl, rfl, rfl, rfl⟩

theorem TraceKept.trans {s t u : State} (hst : TraceKept s t) (htu : TraceKept t u) : TraceKept s u where
  trace := htu.trace.trans hst.trace
  cfg := htu.cfg.trans hst.cfg
  prog := htu.prog.trans hst.prog
  shortSince := htu.shortSince.trans hst.shortSince
  episode := htu.episode.trans hst.episode
  number := htu.number.trans hst.number
  events := htu.events.trans hst.events

theorem TraceKept.get?_raw {s t : State} (h : TraceKept s t) {b : Nat} (hb : b = 13 ∨ b = 14) :
    Table.get? t.cell.raw b = Table.get? s.cell.raw b := by
  rw [← get?_traceEvents _ hb, h.events, get?_traceEvents _ hb]

theorem traceKept_post {e : Event} (h : e.bit < 13) (s : State) : TraceKept s (post e s) :=
  ⟨rfl, rfl, rfl, rfl, rfl, rfl, traceEvents_posted s.cell .cell h⟩

/-- A run record of the same number. -/
theorem traceKept_run {s : State} {r : Option Run} (h : r.map (·.number) = s.run.map (·.number)) :
    TraceKept s { s with run := r } :=
  ⟨rfl, rfl, rfl, rfl, rfl, h, rfl⟩

theorem traceKept_plate (s : State) (p : Plate) : TraceKept s { s with plate := p } :=
  ⟨rfl, rfl, rfl, rfl, rfl, rfl, rfl⟩

theorem traceKept_modRun (s : State) {f : Run → Run} (hf : ∀ r, (f r).number = r.number) :
    TraceKept s (s.modRun f) :=
  traceKept_run (by cases s.run <;> simp [hf])

theorem traceKept_ineligible (s : State) : TraceKept s (ineligible s) := ⟨rfl, rfl, rfl, rfl, rfl, rfl, rfl⟩

theorem traceKept_setPhase (p : Phase) (s : State) : TraceKept s (setPhase p s) := by
  unfold setPhase
  split
  next => exact TraceKept.refl s
  next run hrun =>
    have hposted : TraceKept s
        (post (.runPhase run.number (.phase p)) { s with run := some { run with phase := p } }) :=
      (traceKept_run (by simp [hrun])).trans (traceKept_post (by simp [Event.bit]) _)
    dsimp only
    split
    · exact hposted
    · exact hposted.trans (traceKept_ineligible _)

/-- An abandoned sample gives back its presence flag alone (R40). -/
theorem traceKept_abandonSample (s : State) : TraceKept s (abandonSample s) := by
  unfold abandonSample
  split <;> exact ⟨rfl, rfl, rfl, rfl, rfl, rfl, rfl⟩

theorem traceKept_haltRun (causes : Causes) (s : State) : TraceKept s (haltRun causes s) := by
  unfold haltRun
  split
  next => exact TraceKept.refl s
  next run hrun =>
    refine (traceKept_abandonSample s).trans ((traceKept_run ?number).trans
      ((traceKept_post (by simp [Event.bit]) _).trans (traceKept_setPhase _ _)))
    simp [hrun]

theorem traceKept_arise (causes : Causes) (s : State) : TraceKept s (arise causes s) := by
  unfold arise
  split
  next => exact TraceKept.refl s
  next run hrun =>
    split
    · exact traceKept_haltRun causes s
    · split
      next h =>
        dsimp only
        split
        · exact TraceKept.refl s
        · exact (traceKept_run (by simp [hrun])).trans (traceKept_post (by simp [Event.bit]) _)
      next => exact TraceKept.refl s

/-- Between an entry and the halt at it a free value is taken and the permits are driven at most (log 10). -/
theorem traceKept_haltIfStanding (s : State) : TraceKept s (haltIfStanding s) := by
  have hdriven : TraceKept s (drivePermits (takeFree s).2) := ⟨rfl, rfl, rfl, rfl, rfl, rfl, rfl⟩
  have htaken : TraceKept s (takeFree s).2 := ⟨rfl, rfl, rfl, rfl, rfl, rfl, rfl⟩
  unfold haltIfStanding
  split
  · refine TraceKept.trans ?_ (traceKept_haltRun _ _)
    split
    · split
      · exact hdriven
      · exact htaken
    · exact TraceKept.refl s
  · exact TraceKept.refl s

theorem traceKept_settleTrigger (s : State) : TraceKept s (settleTrigger s) := ⟨rfl, rfl, rfl, rfl, rfl, rfl, rfl⟩

theorem traceKept_entryTrigger (p : Phase) (s : State) : TraceKept s (entryTrigger p s) := by
  unfold entryTrigger
  split
  next => exact traceKept_settleTrigger s
  next =>
    unfold settleOnResume
    split
    · exact traceKept_settleTrigger s
    · exact TraceKept.refl s
  all_goals exact TraceKept.refl s

theorem traceKept_enterTracking (p : Phase) (s : State) : TraceKept s (enterTracking p s) :=
  ((traceKept_setPhase p s).trans (traceKept_entryTrigger p _)).trans (traceKept_haltIfStanding _)

theorem traceKept_postAtLimit (s : State) : TraceKept s (postAtLimit s) := by
  unfold postAtLimit
  split
  · exact TraceKept.refl s
  · exact traceKept_post (by simp [Event.bit]) s

theorem traceKept_atLimit (s : State) : TraceKept s (enterTracking .atLimit (postAtLimit s)) :=
  (traceKept_postAtLimit s).trans (traceKept_enterTracking _ _)

theorem traceKept_enterCutting (s : State) : TraceKept s (enterCutting s) := by
  unfold enterCutting
  split
  · exact TraceKept.refl s
  · split
    · exact traceKept_atLimit s
    · exact traceKept_enterTracking _ s

theorem traceKept_evaluateWarn (s : State) : TraceKept s (evaluateWarn s) := by
  unfold evaluateWarn
  split
  next => exact TraceKept.refl s
  next run hrun =>
    dsimp only
    split
    · exact (traceKept_run (by simp [hrun])).trans (traceKept_post (by simp [Event.bit]) _)
    · split
      · exact traceKept_run (by simp [hrun])
      · exact TraceKept.refl s

theorem traceKept_phaseTests (phase : Phase) (before : Path) (res : SampleResult) (s : State) :
    TraceKept s (phaseTests phase before res s) := by
  unfold phaseTests
  split
  next => exact TraceKept.refl s
  next run hrun =>
    split
    next =>
      split
      · exact traceKept_enterCutting s
      · split
        · exact traceKept_enterTracking _ s
        · exact TraceKept.refl s
    next =>
      split
      next =>
        split
        · exact traceKept_enterCutting s
        · exact TraceKept.refl s
      next =>
        dsimp only
        split
        · exact (traceKept_evaluateWarn s).trans (traceKept_atLimit _)
        · exact traceKept_evaluateWarn s
      all_goals exact TraceKept.refl s

/-- An evaluation posts CONTOUR_STATE at most (R134). -/
theorem traceKept_evaluate (i : Nat) (s : State) : TraceKept s (evaluate i s) := by
  obtain h | ⟨r, h⟩ := evaluate_cases i s
  · rw [h]
    exact TraceKept.refl s
  · obtain ⟨p, hp⟩ := changeRetention_eq i r s
    rw [h, hp]
    exact (traceKept_plate s p).trans (traceKept_post (by simp [Event.bit]) _)

theorem traceKept_creditSample (credit : Option (Nat × Nat)) (s : State) : TraceKept s (creditSample credit s) := by
  obtain h | ⟨i, f, h⟩ := creditSample_cases credit s
  · rw [h]
    exact TraceKept.refl s
  · rw [h]
    exact (traceKept_plate s _).trans (traceKept_evaluate i _)

theorem traceKept_markLeadIn (before : Path) (phase : Phase) (entered : Bool) (s : State) :
    TraceKept s (markLeadIn before phase entered s) := by
  obtain ⟨holes, h⟩ := markLeadIn_eq before phase entered s
  rw [h]
  exact traceKept_plate s _

theorem traceKept_leaveHole (before : Path) (res : SampleResult) (s : State) : TraceKept s (leaveHole before res s) :=
  traceKept_modRun s fun _ => rfl

/-- The state that the phase tests find: the position taken, and the sample's credit given (R40, R54). -/
def creditedState (run : Run) (res : SampleResult) (s : State) : State :=
  creditSample res.credit (markLeadIn s.prog.path run.phase res.entered
    (leaveHole s.prog.path res { s with prog := res.prog }))

/-- The state that the Trace Buffer finds, the phase tests and TRACK_LOSS done (R40, R58; their order: log 15). -/
def testedState (run : Run) (res : SampleResult) (s : State) : State :=
  if res.lossy then
    arise { Causes.none with trackLoss := true } (phaseTests run.phase s.prog.path res (creditedState run res s))
  else phaseTests run.phase s.prog.path res (creditedState run res s)

theorem drive_completeSample {s : State} {run : Run} (presence : Bool) (hrun : s.run = some run) :
    drive (completeSample run.phase run.kind presence s) =
      sampleFinished run.phase (testedState run (samplePath s run run.phase run.kind presence) s) := by
  simp only [completeSample, hrun, sampleFinished, testedState, creditedState]

theorem traceKept_creditedState (run : Run) (res : SampleResult) (s : State) :
    TraceKept { s with prog := res.prog } (creditedState run res s) :=
  ((traceKept_leaveHole s.prog.path res _).trans (traceKept_markLeadIn s.prog.path run.phase res.entered _)).trans
    (traceKept_creditSample res.credit _)

/-- A sample moves the Progress Unit, and nothing else that its record is formed from. -/
theorem traceKept_testedState (run : Run) (res : SampleResult) (s : State) :
    TraceKept { s with prog := res.prog } (testedState run res s) := by
  have htested := (traceKept_creditedState run res s).trans (traceKept_phaseTests run.phase s.prog.path res _)
  unfold testedState
  split
  · exact htested.trans (traceKept_arise _ _)
  · exact htested

/-! ### The record and the FIFO (R165, R166, Table 11-3) -/

/-- The state in which a record is offered: decimation and tally at 0, the mark of a short cleared (R165). -/
def recordFormed (s : State) : State :=
  { s with trace := { s.trace with decimation := 0, tally := 0 }, gap := { s.gap with shortSince := false } }

section
variable {s : State} {run : Run} (p : Phase) (hrun : s.run = some run)
include hrun

theorem traceSample_of_counting (h : s.trace.decimation + 1 ≠ s.cfg.traceDecimation) :
    traceSample p s = { s with trace := { s.trace with decimation := s.trace.decimation + 1 } } := by
  simp [traceSample, hrun, h]

theorem traceSample_of_due (h : s.trace.decimation + 1 = s.cfg.traceDecimation) :
    traceSample p s = offerRecord (traceRecordOf s run p) (recordFormed s) := by
  simp [traceSample, hrun, h, recordFormed]

end

section
variable {s : State} (entry : TraceRecord)

/-- A record with room joins the FIFO, with TRACE_LEVEL where the threshold is reached (R166). -/
theorem offerRecord_of_room (h : s.trace.fifo.length < 64) :
    (offerRecord entry s).trace = { s.trace with fifo := s.trace.fifo ++ [entry] } ∧
      Table.get? (offerRecord entry s).cell.raw 13 =
        (if s.trace.fifo.length < s.cfg.traceThreshold ∧ s.cfg.traceThreshold ≤ s.trace.fifo.length + 1 then
          some (.traceLevel (s.trace.fifo.length + 1)) else Table.get? s.cell.raw 13) ∧
      Table.get? (offerRecord entry s).cell.raw 14 = Table.get? s.cell.raw 14 := by
  have hr : (routed .cell).getLsbD 13 = true := by decide
  simp only [offerRecord, if_pos h]
  split
  · exact ⟨rfl, get?_posted_same s.cell .cell (.traceLevel _) hr (by simp [Event.bit]),
      get?_posted_other _ _ _ _ (by simp [Event.bit])⟩
  · exact ⟨rfl, rfl, rfl⟩

/-- A record without room is dropped, with TRACE_OVERFLOW (R166). -/
theorem offerRecord_of_full (h : 64 ≤ s.trace.fifo.length) :
    (offerRecord entry s).trace = { s.trace with dropped := min 255 (s.trace.dropped + 1) } ∧
      Table.get? (offerRecord entry s).cell.raw 14 = some (.traceOverflow (min 255 (s.trace.dropped + 1))) ∧
      Table.get? (offerRecord entry s).cell.raw 13 = Table.get? s.cell.raw 13 := by
  have hr : (routed .cell).getLsbD 14 = true := by decide
  simp only [offerRecord, if_neg (Nat.not_lt.mpr h)]
  exact ⟨rfl, get?_posted_same s.cell .cell (.traceOverflow _) hr (by simp [Event.bit]),
    get?_posted_other _ _ _ _ (by simp [Event.bit])⟩

theorem offerRecord_gap : (offerRecord entry s).gap = s.gap := by
  obtain ⟨_, _, _, _, _, h⟩ := offerRecord_eq entry s
  rw [h]

end

/-! ### PROGRESS_SAMPLE and its record -/

theorem sampleFinished_trace (p : Phase) (s : State) : (sampleFinished p s).trace = (traceSample p s).trace := rfl

theorem sampleFinished_shortSince (p : Phase) (s : State) :
    (sampleFinished p s).gap.shortSince = (traceSample p s).gap.shortSince := rfl

theorem sampleFinished_cell_raw (p : Phase) (s : State) :
    (sampleFinished p s).cell.raw = (traceSample p s).cell.raw := rfl

/-- The record of a sample is formed from what the sample left as it was, and from the sample's own results: `r`, `dev`,
the warn indicator and the dry excess (Table 11-3). -/
theorem traceRecordOf_of_kept {s t : State} (h : TraceKept s t) {run u : Run} (hnumber : u.number = run.number)
    (p : Phase) : traceRecordOf t u p = {
      run := run.number % 256
      phase := p
      r := max (-32768) (min 32767 (t.prog.r / ((2 ^ s.cfg.traceShift : Nat) : Int)))
      dev := min 65535 (t.prog.dev / 2 ^ s.cfg.traceShift)
      discharges := s.trace.tally
      short := s.gap.shortSince || s.gap.episode.any (fun e => e.qualified)
      warn := u.warn
      dry := decide (0 < t.prog.dry) } := by
  rw [traceRecordOf, Gap.shortPresent, hnumber, h.cfg, h.trace, h.shortSince, h.episode, clampInt]

/-- A sample ends with its trace part, in a state that has kept what the record is formed from (R40, R165). -/
theorem exec_progressSample_traceKept (run : Run) (presence : Bool) (s : State) (h : Samples run presence s) :
    ∃ v u, TraceKept { s with prog := v.prog } v ∧ v.run = some u ∧ u.number = run.number ∧
      exec .progressSample s = .next (sampleFinished run.phase v) := by
  obtain ⟨left, hexec⟩ := exec_progressSample_of_samples h
  obtain ⟨-, hrun, -, -⟩ := h
  have hkept := traceKept_testedState run (samplePath (sampleTaken left s) run run.phase run.kind presence)
    (sampleTaken left s)
  rw [drive_completeSample (s := sampleTaken left s) presence hrun] at hexec
  generalize testedState run _ (sampleTaken left s) = v at hkept hexec
  obtain ⟨htrace, hcfg, hprog, hshort, hepisode, hnumber, hevents⟩ := hkept
  obtain ⟨u, hu, hun⟩ : ∃ u, v.run = some u ∧ u.number = run.number := by
    simpa [sampleTaken, hrun] using hnumber
  exact ⟨v, u, ⟨htrace, hcfg, rfl, hshort, hepisode, hnumber, hevents⟩, hu, hun, hexec⟩

/-! ### TRACE_READ (R167) -/

theorem exec_traceRead (tag : Byte) {s : State} (h : Serves .cell .traceRead s) :
    exec (.traceRead tag []) s = .next (replied .cell .traceRead tag (traceReadBody s.trace)
      { s with trace := s.trace.drained }) :=
  congrArg Host.Outcome.next (serve_of_serves tag [] (parseNone []) () traceRead h rfl)

/-- The number, the twelve oldest records, the dropped count, and the level that is left. -/
theorem traceReadBody_eq (t : Trace) : traceReadBody t =
    0 :: (natField 1 (min 12 t.fifo.length) ++ (t.fifo.take 12).flatMap traceField ++ natField 1 t.dropped ++
      natField 1 (t.fifo.length - 12)) := by
  rw [traceReadBody, List.length_take, List.length_drop, Status.code]

/-- Settles O51: the parts of a sample before the trace part leave alone what its record is formed from, and the parts
after it leave the trace alone. -/
theorem traceRecordsAreFormedAndRead : Obligations.TraceRecordsAreFormedAndRead := by
  unfold Obligations.TraceRecordsAreFormedAndRead
  refine ⟨fun run presence s h => ?sample, fun tag s h => ?read⟩
  case read => rw [exec_traceRead tag h, traceReadBody_eq, Trace.drained]
  case sample =>
    obtain ⟨v, u, hkept, hu, hnumber, hexec⟩ := exec_progressSample_traceKept run presence s h
    refine ⟨_, _, hexec, sampleFinished_run hu, ?_⟩
    rw [sampleFinished_prog]
    dsimp only
    rw [← traceRecordOf_of_kept hkept hnumber, sampleFinished_trace, sampleFinished_shortSince,
      sampleFinished_cell_raw]
    have htrace : v.trace = s.trace := hkept.trace
    have hcfg : v.cfg = s.cfg := hkept.cfg
    have h13 : Table.get? v.cell.raw 13 = Table.get? s.cell.raw 13 := hkept.get?_raw (.inl rfl)
    have h14 : Table.get? v.cell.raw 14 = Table.get? s.cell.raw 14 := hkept.get?_raw (.inr rfl)
    rw [← htrace, ← hcfg, ← h13, ← h14]
    refine ⟨fun hcount => ?counting, fun hdue hroom => ?room, fun hdue hfull => ?full⟩
    case counting =>
      rw [traceSample_of_counting run.phase hu hcount]
      exact ⟨rfl, hkept.shortSince, hkept.events⟩
    case room =>
      rw [traceSample_of_due run.phase hu hdue, offerRecord_gap]
      obtain ⟨hfifo, hlevel, hoverflow⟩ :=
        offerRecord_of_room (s := recordFormed v) (traceRecordOf v u run.phase) hroom
      exact ⟨hfifo, rfl, hlevel, hoverflow⟩
    case full =>
      rw [traceSample_of_due run.phase hu hdue, offerRecord_gap]
      obtain ⟨hdropped, hoverflow, hlevel⟩ :=
        offerRecord_of_full (s := recordFormed v) (traceRecordOf v u run.phase) hfull
      exact ⟨hdropped, rfl, hoverflow, hlevel⟩

end Sys2Proof.ConfigTraceStartUp
end

section
/-! SUPPORT. The command queue: what a step does when a command waits at its front. -/

namespace Sys2Proof.CommandQueue

open Sys2Proof.Machine

/-- The branch of `step` that a waiting command selects; no ref count passes in it (log 2). -/
theorem step_of_pending_cons {c : Instr} {rest : List Instr} {s : State} (hfront : s.pending = c :: rest) :
    step s = exec c { s with pending := rest } := by
  simp only [step, hfront]

/-- Settles O1: a queue with a command at its front is the first branch of `step`. -/
theorem stepRunsFrontCommand : Obligations.StepRunsFrontCommand := by
  unfold Obligations.StepRunsFrontCommand
  intro c rest s hfront
  exact step_of_pending_cons hfront

end Sys2Proof.CommandQueue
end
